-- ==== Sys2Proof/Word.lean ====
section
/-! DEFINITION. The widths the spec names (spec/00_scope.md R8, R10). -/

namespace Sys2Proof

/-- A 32-bit register or transaction word (R8). -/
abbrev Word := BitVec 32

/-- An interrupt vector: 8 bits (R8, R15). -/
abbrev Vec := BitVec 8

/-- A 256-bit register: IRR, ISR or TMR, the bit index being the vector (R27, R91). -/
abbrev Bits256 := BitVec 256

/-- A byte offset inside a register window, as the descriptor carries it: 20 bits (R51, R68). -/
abbrev Offset := BitVec 20

/-- An IOAPIC line, which is also the number of its redirection entry: 0 to 23 (R8). -/
abbrev Line := Fin 24

end Sys2Proof
end

