-- ==== Sys2Proof/Machine/Record.lean ====
section
/-! DEFINITION. The state record of the block (spec/10_state.md R20 to R43): the fields of the two units, `FAULTED`
apart. It is what SNAPSHOT returns and what RESTORE takes (spec/45_host_interface.md R175, R176). -/

namespace Sys2Proof.Machine

/-- The LAPIC's registers (R21 to R36). -/
structure Lapic where
  /-- R21. -/
  id : Word
  /-- The task priority register, R23. -/
  tpr : BitVec 8
  /-- The logical destination register, R24. -/
  ldr : Word
  /-- The destination format register, R25. -/
  dfr : Word
  /-- The spurious-vector register, R26. -/
  svr : Word
  /-- Vectors in service, R27. -/
  isr : Bits256
  /-- Trigger mode of each vector's last accepted delivery, 1 = level, R27. -/
  tmr : Bits256
  /-- Vectors requesting service, R27. -/
  irr : Bits256
  /-- The current error bits, R28. -/
  error : Word
  /-- The latched error bits, R28. -/
  readError : Word
  /-- The interrupt command register's low word, R29. -/
  icr0 : Word
  /-- The interrupt command register's high word, R30. -/
  icr1 : Word
  /-- R31. -/
  lvtTimer : Word
  /-- R32. -/
  lvtPerf : Word
  /-- R32. -/
  lvtInt0 : Word
  /-- R32. -/
  lvtInt1 : Word
  /-- R32. -/
  lvtError : Word
  /-- The divide configuration register, R33. -/
  timerDiv : Word
  /-- The divider's shift, 0 to 7 in a well-formed record, R33 and R47. -/
  timerShift : Nat
  /-- The initial count, R34. -/
  timerInitial : Word
  /-- The current count, below 2^32 in a well-formed record, R35 and R47. -/
  timerCurrent : Nat
  /-- The reference time of the timer, R36. -/
  nextTick : Nat
  deriving DecidableEq, Repr

/-- The IOAPIC's registers and line state (R37 to R43). -/
structure IoApic where
  /-- The select register, R37. -/
  ioregsel : BitVec 8
  /-- R38. -/
  id : BitVec 4
  /-- The redirection config words, R40. -/
  cfg : Vector Word 24
  /-- The redirection destination words, R41. -/
  dest : Vector Word 24
  /-- The lines asserted now, R42. -/
  irqValue : BitVec 24
  /-- The lines pending delivery, R43. -/
  irr : BitVec 24
  deriving DecidableEq, Repr

/-- The state record of R20 without `FAULTED` (R175). -/
structure Record where
  lapic : Lapic
  ioapic : IoApic
  deriving DecidableEq, Repr

/-- A well-formed record (R47). The fields that are bit vectors fit their widths by their type. -/
abbrev Record.WellFormed (r : Record) : Prop :=
  r.lapic.timerShift ≤ 7 ∧ r.lapic.timerCurrent < 2 ^ 32 ∧
    ∀ k : Line, (r.ioapic.dest[k]).extractLsb' 0 24 = 0#24

/-- The record whose every field is zero: the RESTORE operand of a transaction that carries none. -/
def Record.zero : Record where
  lapic :=
    { id := 0, tpr := 0, ldr := 0, dfr := 0, svr := 0, isr := 0, tmr := 0, irr := 0, error := 0, readError := 0,
      icr0 := 0, icr1 := 0, lvtTimer := 0, lvtPerf := 0, lvtInt0 := 0, lvtInt1 := 0, lvtError := 0, timerDiv := 0,
      timerShift := 0, timerInitial := 0, timerCurrent := 0, nextTick := 0 }
  ioapic :=
    { ioregsel := 0, id := 0, cfg := Vector.replicate 24 0, dest := Vector.replicate 24 0, irqValue := 0, irr := 0 }

end Sys2Proof.Machine
end

