-- ==== Sys2Proof/Syntax.lean ====
section
/-! DEFINITION. The transactions of the block (spec/30_encoding.md R67 to R77): the instruction type, with one
constructor for each row of spec/opcode_table.json, the transaction as the agents present it (a descriptor and the
operands beside it, R68 and R70), and the names of the registers the two windows reach. -/

namespace Sys2Proof

/-- The operands of ROUTE (R70, R126). -/
structure RouteArgs where
  vector : Vec
  /-- The delivery mode code, R79. -/
  mode : BitVec 3
  isLevel : Bool
  destination : BitVec 8
  /-- The destination mode: 0 physical, 1 logical. -/
  destMode : Bool
  deriving DecidableEq, Repr

/-- A LAPIC register named by an offset of R72. -/
inductive LapicReg where
  | id | version | tpr | eoi | ldr | dfr | svr
  | isr (j : BitVec 3) | tmr (j : BitVec 3) | irr (j : BitVec 3)
  | error | icrLow | icrHigh
  | lvtTimer | lvtPerf | lvtInt0 | lvtInt1 | lvtError
  | timerInitial | timerCurrent | timerDivide
  deriving DecidableEq, Repr

/-- What IOWIN reaches, by the index in `IO.ioregsel` (R75). -/
inductive IowinReg where
  | id | version | arbitration
  | config (k : Line) | destination (k : Line)
  | unknown
  deriving DecidableEq, Repr

/-- The instructions: one constructor for each row of spec/opcode_table.json, in the table's order. Each docstring
names the row's rule. -/
inductive Instr where
  /-- R99. -/
  | r32LapicId
  /-- R100. -/
  | w32LapicId (data : Word)
  /-- R101. -/
  | r32LapicVersion
  /-- R121. -/
  | w32LapicVersion (data : Word)
  /-- R102. -/
  | r32LapicTpr
  /-- R103. -/
  | w32LapicTpr (data : Word)
  /-- R120. -/
  | r32LapicEoi
  /-- R131. -/
  | w32LapicEoi (data : Word)
  /-- R104. -/
  | r32LapicLdr
  /-- R105. -/
  | w32LapicLdr (data : Word)
  /-- R106. -/
  | r32LapicDfr
  /-- R107. -/
  | w32LapicDfr (data : Word)
  /-- R108. -/
  | r32LapicSvr
  /-- R109. -/
  | w32LapicSvr (data : Word)
  /-- R110. -/
  | r32LapicIsr (j : BitVec 3)
  /-- R121. -/
  | w32LapicIsr (j : BitVec 3) (data : Word)
  /-- R111. -/
  | r32LapicTmr (j : BitVec 3)
  /-- R121. -/
  | w32LapicTmr (j : BitVec 3) (data : Word)
  /-- R112. -/
  | r32LapicIrr (j : BitVec 3)
  /-- R121. -/
  | w32LapicIrr (j : BitVec 3) (data : Word)
  /-- R113. -/
  | r32LapicError
  /-- R114. -/
  | w32LapicError (data : Word)
  /-- R115. -/
  | r32LapicIcrLow
  /-- R132, R133. -/
  | w32LapicIcrLow (data : Word)
  /-- R116. -/
  | r32LapicIcrHigh
  /-- R117. -/
  | w32LapicIcrHigh (data : Word)
  /-- R118. -/
  | r32LapicLvtTimer
  /-- R119. -/
  | w32LapicLvtTimer (data : Word)
  /-- R118. -/
  | r32LapicLvtPerf
  /-- R119. -/
  | w32LapicLvtPerf (data : Word)
  /-- R118. -/
  | r32LapicLvtInt0
  /-- R119. -/
  | w32LapicLvtInt0 (data : Word)
  /-- R118. -/
  | r32LapicLvtInt1
  /-- R119. -/
  | w32LapicLvtInt1 (data : Word)
  /-- R118. -/
  | r32LapicLvtError
  /-- R119. -/
  | w32LapicLvtError (data : Word)
  /-- R142. -/
  | r32LapicTimerInitial
  /-- R141: the arming write, the one write that reads its `now`. -/
  | w32LapicTimerInitial (data : Word) (now : Nat)
  /-- R143. -/
  | r32LapicTimerCurrent
  /-- R121. -/
  | w32LapicTimerCurrent (data : Word)
  /-- R140. -/
  | r32LapicTimerDivide
  /-- R139. -/
  | w32LapicTimerDivide (data : Word)
  /-- R122. -/
  | r32LapicUnlisted (off : Offset)
  /-- R122. -/
  | w32LapicUnlisted (off : Offset) (data : Word)
  /-- R55. -/
  | r8Lapic (off : Offset)
  /-- R56. -/
  | w8Lapic (off : Offset) (data : BitVec 8)
  /-- R57. -/
  | r16Lapic (off : Offset)
  /-- R57. -/
  | w16Lapic (off : Offset) (data : BitVec 16)
  /-- R57. -/
  | r64Lapic (off : Offset)
  /-- R57. -/
  | w64Lapic (off : Offset) (data : BitVec 64)
  /-- R148. -/
  | r32Ioregsel
  /-- R149. -/
  | w32Ioregsel (data : Word)
  /-- R150: dispatch on `IO.ioregsel`. -/
  | r32Iowin
  /-- R151: dispatch on `IO.ioregsel`. -/
  | w32Iowin (data : Word)
  /-- R152, the IOWIN read with `IO.ioregsel` = 0x00. -/
  | r32IowinId
  /-- R153, the IOWIN write with `IO.ioregsel` = 0x00. -/
  | w32IowinId (data : Word)
  /-- R154, the IOWIN read with `IO.ioregsel` = 0x01. -/
  | r32IowinVersion
  /-- R155, the IOWIN read with `IO.ioregsel` = 0x02. -/
  | r32IowinArbitration
  /-- R156, the IOWIN write with `IO.ioregsel` = 0x01 or 0x02. -/
  | w32IowinReadOnly (data : Word)
  /-- R157, the IOWIN read with `IO.ioregsel` in 0x10 to 0x3F. -/
  | r32IowinRedirection
  /-- R158, the IOWIN write with `IO.ioregsel` = 0x10 + 2k. -/
  | w32IowinConfig (data : Word)
  /-- R159, the IOWIN write with `IO.ioregsel` = 0x11 + 2k. -/
  | w32IowinDestination (data : Word)
  /-- R164, the IOWIN access with `IO.ioregsel` in 0x03 to 0x0F or 0x40 to 0xFF: a read, or a write of some data. -/
  | iowinUnknown (write : Option Word)
  /-- R58. -/
  | r32IoapicUnlisted (off : Offset)
  /-- R58. -/
  | w32IoapicUnlisted (off : Offset) (data : Word)
  /-- R58. -/
  | r8Ioapic (off : Offset)
  /-- R58. -/
  | w8Ioapic (off : Offset) (data : BitVec 8)
  /-- R58. -/
  | r16Ioapic (off : Offset)
  /-- R58. -/
  | w16Ioapic (off : Offset) (data : BitVec 16)
  /-- R58. -/
  | r64Ioapic (off : Offset)
  /-- R58. -/
  | w64Ioapic (off : Offset) (data : BitVec 64)
  /-- R161. -/
  | raiseLine (line : Offset)
  /-- R162. -/
  | lowerLine (line : Offset)
  /-- R129. -/
  | ack
  /-- R144. -/
  | tick (now : Nat)
  /-- R201. -/
  | reset (now : Nat)
  /-- R176. -/
  | restore (record : Machine.Record)
  /-- R175. -/
  | snapshot
  /-- R126. -/
  | route (args : RouteArgs)
  /-- R163. -/
  | remoteEoi (vector : Vec)
  deriving DecidableEq, Repr

/-- A transaction as it is presented to the block: its descriptor (R68) and the operands carried beside it (R70). An
operand that the descriptor's kind does not use is ignored. -/
structure Tx where
  /-- The 32-bit descriptor, R68. -/
  desc : Word
  /-- WRITE's data; an access narrower than 64 bits uses the low bits. -/
  data : BitVec 64
  /-- The time of WRITE, TICK and RESET. -/
  now : Nat
  /-- ROUTE's operands; REMOTE_EOI's vector is `args.vector`. -/
  args : RouteArgs
  /-- RESTORE's operand. -/
  record : Machine.Record
  deriving DecidableEq, Repr

/-- Why a descriptor spells no transaction (R69). -/
inductive Reject where
  /-- Bits 31:28 are not zero. -/
  | reservedBits
  /-- The kind code is 11 to 15. -/
  | unknownKind
  /-- READ or WRITE with space 2 or 3. -/
  | unknownSpace
  /-- A field that the kind does not use is not zero. -/
  | unusedField
  deriving DecidableEq, Repr

end Sys2Proof
end

