-- ==== Sys2Proof/Machine/Operands.lean ====
section
/-! DEFINITION. The operand forms: the 256-bit register operations (spec/40_bitvector.md R91 to R97), the maps from an
offset or index to a register (spec/30_encoding.md R72 to R76) and the bit layouts of the registers (R80 to R87). -/

namespace Sys2Proof.Machine

/-! ## 256-bit registers -/

/-- `get(B, v)` (R92). Bit `v` of the register is bit `v & 31` of its word `v >> 5` (R91). -/
def getBit (b : Bits256) (v : Vec) : Bool := b.getLsbD v.toNat

/-- `set(B, v)` (R93). -/
def setBit (b : Bits256) (v : Vec) : Bits256 := b ||| (1#256 <<< v.toNat)

/-- `clear(B, v)` (R94). -/
def clearBit (b : Bits256) (v : Vec) : Bits256 := b &&& ~~~(1#256 <<< v.toNat)

/-- The highest set bit of `b` below bit `n`: the scan of R95 from bit `n - 1` down. -/
def highestBelow (b : Bits256) : Nat → Option Vec
  | 0 => none
  | n + 1 => if b.getLsbD n then some (BitVec.ofNat 8 n) else highestBelow b n

/-- `highest(B)` (R95): words 7 to 0, most significant bit first. -/
def highest (b : Bits256) : Option Vec := highestBelow b 256

/-- `word(B, j)` (R97). -/
def wordOf (b : Bits256) (j : BitVec 3) : Word := b.extractLsb' (32 * j.toNat) 32

/-! ## Register selection -/

/-- The window offset of a LAPIC register (R72, R73). The ISR, TMR and IRR words are at base + 0x10 * j. -/
def lapicOffset : LapicReg → Offset
  | .id => 0x020#20
  | .version => 0x030#20
  | .tpr => 0x080#20
  | .eoi => 0x0B0#20
  | .ldr => 0x0D0#20
  | .dfr => 0x0E0#20
  | .svr => 0x0F0#20
  | .isr j => 0x2#13 ++ j ++ 0#4
  | .tmr j => 0x3#13 ++ j ++ 0#4
  | .irr j => 0x4#13 ++ j ++ 0#4
  | .error => 0x280#20
  | .icrLow => 0x300#20
  | .icrHigh => 0x310#20
  | .lvtTimer => 0x320#20
  | .lvtPerf => 0x340#20
  | .lvtInt0 => 0x350#20
  | .lvtInt1 => 0x360#20
  | .lvtError => 0x370#20
  | .timerInitial => 0x380#20
  | .timerCurrent => 0x390#20
  | .timerDivide => 0x3E0#20

/-- The LAPIC registers of R72 that are not words of a 256-bit register. -/
def plainLapicRegs : List LapicReg :=
  [.id, .version, .tpr, .eoi, .ldr, .dfr, .svr, .error, .icrLow, .icrHigh, .lvtTimer, .lvtPerf, .lvtInt0, .lvtInt1,
    .lvtError, .timerInitial, .timerCurrent, .timerDivide]

/-- The register a 32-bit LAPIC access reaches, by its offset alone (R54, R72, R73); `none` where the table lists
none. -/
def lapicRegAt (off : Offset) : Option LapicReg :=
  if off.extractLsb' 0 4 = 0#4 ∧ off.extractLsb' 7 13 = 0x2#13 then some (.isr (off.extractLsb' 4 3))
  else if off.extractLsb' 0 4 = 0#4 ∧ off.extractLsb' 7 13 = 0x3#13 then some (.tmr (off.extractLsb' 4 3))
  else if off.extractLsb' 0 4 = 0#4 ∧ off.extractLsb' 7 13 = 0x4#13 then some (.irr (off.extractLsb' 4 3))
  else plainLapicRegs.find? fun r => lapicOffset r == off

/-- The offset of IOREGSEL (R74). -/
def ioregselOffset : Offset := 0x00#20

/-- The offset of IOWIN (R74). -/
def iowinOffset : Offset := 0x10#20

/-- What IOWIN reaches at the index `sel` (R75, R76): for 0x10 to 0x3F the entry is `(sel - 0x10) >> 1` and the word is
`sel[0]`. -/
def iowinRegAt (sel : BitVec 8) : IowinReg :=
  if sel = 0x00#8 then .id
  else if sel = 0x01#8 then .version
  else if sel = 0x02#8 then .arbitration
  else if h : 0x10 ≤ sel.toNat ∧ sel.toNat ≤ 0x3F then
    let k : Line := ⟨(sel.toNat - 0x10) / 2, by omega⟩
    if sel.getLsbD 0 then .destination k else .config k
  else .unknown

/-- The aligned 32-bit offset of the word that holds the byte at `off`: `off & 0xFFFFC` (R55). -/
def alignedOffset (off : Offset) : Offset := off &&& 0xFFFFC#20

/-- Byte lane `off[1:0]` of a 32-bit word, little-endian (R53, R55). -/
def byteLane (w : Word) (off : Offset) : BitVec 8 :=
  (w >>> (8 * (off.extractLsb' 0 2).toNat)).extractLsb' 0 8

/-- `IO.cfg[k]` (R40). -/
def configOf (io : IoApic) (k : Line) : Word := io.cfg[k]

/-- `IO.dest[k]` (R41). -/
def destOf (io : IoApic) (k : Line) : Word := io.dest[k]

/-! ## Redirection config word (R82) and destination word (R83) -/

/-- `MASK_BIT` (R14): bit 16. -/
def maskBit : Word := 0x00010000#32

/-- `REMOTE_IRR` (R14): bit 14. -/
def remoteIrrBit : Word := 0x00004000#32

/-- `DELIV_STATUS` (R14): bit 12. -/
def delivStatusBit : Word := 0x00001000#32

/-- `CFG_WR` (R82): the writable bits of a config word. -/
def cfgWritable : Word := 0x0001AFFF#32

/-- `CFG_RO` (R82): the preserved bits of a config word. -/
def cfgReadOnly : Word := 0xFFFE5000#32

/-- The stored config word after a write of `data` over `old` (R158). -/
def mergeConfig (data old : Word) : Word := (data &&& cfgWritable) ||| (old &&& cfgReadOnly)

/-- Bits 7:0 of a config word, an LVT entry or an ICR low word: the vector (R80, R82, R84). -/
def vectorField (w : Word) : Vec := w.extractLsb' 0 8

/-- Bits 10:8: the delivery mode (R80, R82). -/
def modeField (w : Word) : BitVec 3 := w.extractLsb' 8 3

/-- Bit 11: the destination mode (R80, R82). -/
def destModeField (w : Word) : Bool := w.getLsbD 11

/-- Bit 15: the trigger mode, 1 = level (R80, R82). -/
def isLevelField (w : Word) : Bool := w.getLsbD 15

/-- Bit 16: the mask of a config word or an LVT entry (R82, R84). -/
def isMasked (w : Word) : Bool := w.getLsbD 16

/-- Bits 31:24: the destination byte of a destination word or an ICR high word (R81, R83). -/
def destByte (w : Word) : BitVec 8 := w.extractLsb' 24 8

/-- The stored destination word after a write (R159), and the stored LDR (R105): bits 31:24 only. -/
def topByteOnly (w : Word) : Word := w &&& 0xFF000000#32

/-! ## Other LAPIC and IOAPIC layouts -/

/-- Bits 18:17 of the timer LVT: the timer mode (R84). -/
def timerModeField (w : Word) : BitVec 2 := w.extractLsb' 17 2

/-- Bits 19:18 of the ICR low word: the destination shorthand (R80, R88). -/
def shorthandField (w : Word) : BitVec 2 := w.extractLsb' 18 2

/-- The stored ICR low word: delivery status, bit 12, is stored as 0 (R132). -/
def storedIcrLow (data : Word) : Word := data &&& 0xFFFFEFFF#32

/-- The stored DFR: bits 27:0 read as 1 (R107). -/
def storedDfr (data : Word) : Word := data ||| 0x0FFFFFFF#32

/-- The stored divide configuration: bits 3, 1 and 0 (R139). -/
def storedDivide (data : Word) : Word := data &&& 0x0000000B#32

/-- The divider code: bit 3, then bits 1:0 (R85). -/
def dividerCode (data : Word) : BitVec 3 := data.extractLsb' 3 1 ++ data.extractLsb' 0 2

/-- The shift of a divider code (R85): code 7 divides by 1. -/
def dividerShift (code : BitVec 3) : Nat := if code = 7#3 then 0 else code.toNat + 1

/-- Bits 27:24 of data written to the IOAPIC ID register (R87, R153). -/
def ioIdField (data : Word) : BitVec 4 := data.extractLsb' 24 4

/-- What IOAPIC registers 0 and 2 read: the ID in bits 27:24 (R87, R152, R155). -/
def ioIdWord (id : BitVec 4) : Word := id.zeroExtend 32 <<< 24

/-- Bits 7:0: a TPR (R103) or an IOREGSEL (R149) write. -/
def lowByte (data : Word) : BitVec 8 := data.extractLsb' 0 8

end Sys2Proof.Machine
end

