-- ==== Sys2Proof/WellFormed.lean ====
section
/-! DEFINITION. Which instruction terms stand for a transaction. Every operand fits its field by its type; what is left
is that the four catch-all rows have a lower priority than every exact row of their window and width
(spec/opcode_table.json; spec/30_encoding.md R72, R74, R77). -/

namespace Sys2Proof

/-- The offset is one that R72 does not list. -/
def lapicUnlisted (off : Offset) : Bool := (Machine.lapicRegAt off).isNone

/-- The offset is neither IOREGSEL's nor IOWIN's (R74). -/
def ioapicUnlisted (off : Offset) : Bool := off != Machine.ioregselOffset && off != Machine.iowinOffset

/-- An instruction term that some transaction spells. -/
def Instr.wellFormed : Instr → Bool
  | .r32LapicUnlisted off => lapicUnlisted off
  | .w32LapicUnlisted off _ => lapicUnlisted off
  | .r32IoapicUnlisted off => ioapicUnlisted off
  | .w32IoapicUnlisted off _ => ioapicUnlisted off
  | _ => true

end Sys2Proof
end

