-- ==== Sys2Proof/Decode.lean ====
section
/-! DEFINITION. Decoding a transaction from its descriptor and operands (spec/30_encoding.md R68 to R70, R77), then the
encoder. Both are total. -/

namespace Sys2Proof

/-! ## Descriptor fields (R68) -/

/-- Bits 3:0. -/
def kindField (d : Word) : BitVec 4 := d.extractLsb' 0 4

/-- Bits 5:4: 0 LAPIC, 1 IOAPIC. -/
def spaceField (d : Word) : BitVec 2 := d.extractLsb' 4 2

/-- Bits 7:6: 0 8-bit, 1 16-bit, 2 32-bit, 3 64-bit. -/
def wcodeField (d : Word) : BitVec 2 := d.extractLsb' 6 2

/-- Bits 27:8: the window offset, or the line number. -/
def offsetField (d : Word) : Offset := d.extractLsb' 8 20

/-- Bits 31:28, which must be zero. -/
def zeroField (d : Word) : BitVec 4 := d.extractLsb' 28 4

/-! ## The decoder -/

/-- The 32-bit LAPIC read of a listed register (R72, R98). -/
def lapicReadOf : LapicReg → Instr
  | .id => .r32LapicId
  | .version => .r32LapicVersion
  | .tpr => .r32LapicTpr
  | .eoi => .r32LapicEoi
  | .ldr => .r32LapicLdr
  | .dfr => .r32LapicDfr
  | .svr => .r32LapicSvr
  | .isr j => .r32LapicIsr j
  | .tmr j => .r32LapicTmr j
  | .irr j => .r32LapicIrr j
  | .error => .r32LapicError
  | .icrLow => .r32LapicIcrLow
  | .icrHigh => .r32LapicIcrHigh
  | .lvtTimer => .r32LapicLvtTimer
  | .lvtPerf => .r32LapicLvtPerf
  | .lvtInt0 => .r32LapicLvtInt0
  | .lvtInt1 => .r32LapicLvtInt1
  | .lvtError => .r32LapicLvtError
  | .timerInitial => .r32LapicTimerInitial
  | .timerCurrent => .r32LapicTimerCurrent
  | .timerDivide => .r32LapicTimerDivide

/-- The 32-bit LAPIC write of a listed register (R72, R123). Only the arming write reads `now` (R70). -/
def lapicWriteOf (data : Word) (now : Nat) : LapicReg → Instr
  | .id => .w32LapicId data
  | .version => .w32LapicVersion data
  | .tpr => .w32LapicTpr data
  | .eoi => .w32LapicEoi data
  | .ldr => .w32LapicLdr data
  | .dfr => .w32LapicDfr data
  | .svr => .w32LapicSvr data
  | .isr j => .w32LapicIsr j data
  | .tmr j => .w32LapicTmr j data
  | .irr j => .w32LapicIrr j data
  | .error => .w32LapicError data
  | .icrLow => .w32LapicIcrLow data
  | .icrHigh => .w32LapicIcrHigh data
  | .lvtTimer => .w32LapicLvtTimer data
  | .lvtPerf => .w32LapicLvtPerf data
  | .lvtInt0 => .w32LapicLvtInt0 data
  | .lvtInt1 => .w32LapicLvtInt1 data
  | .lvtError => .w32LapicLvtError data
  | .timerInitial => .w32LapicTimerInitial data now
  | .timerCurrent => .w32LapicTimerCurrent data
  | .timerDivide => .w32LapicTimerDivide data

/-- READ, in the order of R77: the width, then the offset. -/
def decodeRead (space wcode : BitVec 2) (off : Offset) : Except Reject Instr :=
  match space.toNat, wcode.toNat with
  | 0, 0 => .ok (.r8Lapic off)
  | 0, 1 => .ok (.r16Lapic off)
  | 0, 2 =>
    match Machine.lapicRegAt off with
    | some r => .ok (lapicReadOf r)
    | none => .ok (.r32LapicUnlisted off)
  | 0, _ => .ok (.r64Lapic off)
  | 1, 0 => .ok (.r8Ioapic off)
  | 1, 1 => .ok (.r16Ioapic off)
  | 1, 2 =>
    if off = Machine.ioregselOffset then .ok .r32Ioregsel
    else if off = Machine.iowinOffset then .ok .r32Iowin
    else .ok (.r32IoapicUnlisted off)
  | 1, _ => .ok (.r64Ioapic off)
  | _, _ => .error .unknownSpace

/-- WRITE, in the order of R77: the width, then the offset. The data are the low bits of the operand (R70). -/
def decodeWrite (space wcode : BitVec 2) (off : Offset) (data : BitVec 64) (now : Nat) : Except Reject Instr :=
  match space.toNat, wcode.toNat with
  | 0, 0 => .ok (.w8Lapic off (data.extractLsb' 0 8))
  | 0, 1 => .ok (.w16Lapic off (data.extractLsb' 0 16))
  | 0, 2 =>
    match Machine.lapicRegAt off with
    | some r => .ok (lapicWriteOf (data.extractLsb' 0 32) now r)
    | none => .ok (.w32LapicUnlisted off (data.extractLsb' 0 32))
  | 0, _ => .ok (.w64Lapic off data)
  | 1, 0 => .ok (.w8Ioapic off (data.extractLsb' 0 8))
  | 1, 1 => .ok (.w16Ioapic off (data.extractLsb' 0 16))
  | 1, 2 =>
    if off = Machine.ioregselOffset then .ok (.w32Ioregsel (data.extractLsb' 0 32))
    else if off = Machine.iowinOffset then .ok (.w32Iowin (data.extractLsb' 0 32))
    else .ok (.w32IoapicUnlisted off (data.extractLsb' 0 32))
  | 1, _ => .ok (.w64Ioapic off data)
  | _, _ => .error .unknownSpace

/-- A kind other than READ and WRITE uses neither space nor width code (R68). -/
def plainKind (d : Word) (i : Instr) : Except Reject Instr :=
  if spaceField d = 0#2 ∧ wcodeField d = 0#2 then .ok i else .error .unusedField

/-- A kind that carries no offset and no line uses none of bits 27:4 (R68). -/
def bareKind (d : Word) (i : Instr) : Except Reject Instr :=
  if offsetField d = 0#20 then plainKind d i else .error .unusedField

/-- The transaction that a descriptor and its operands spell (R67 to R70). An IOWIN access decodes to its dispatching
row (R150, R151): its index is state, not descriptor (R75, log 9). -/
def decode (t : Tx) : Except Reject Instr :=
  if zeroField t.desc ≠ 0#4 then .error .reservedBits
  else
    match (kindField t.desc).toNat with
    | 0 => decodeRead (spaceField t.desc) (wcodeField t.desc) (offsetField t.desc)
    | 1 => decodeWrite (spaceField t.desc) (wcodeField t.desc) (offsetField t.desc) t.data t.now
    | 2 => plainKind t.desc (.raiseLine (offsetField t.desc))
    | 3 => plainKind t.desc (.lowerLine (offsetField t.desc))
    | 4 => bareKind t.desc .ack
    | 5 => bareKind t.desc (.tick t.now)
    | 6 => bareKind t.desc (.reset t.now)
    | 7 => bareKind t.desc (.restore t.record)
    | 8 => bareKind t.desc .snapshot
    | 9 => bareKind t.desc (.route t.args)
    | 10 => bareKind t.desc (.remoteEoi t.args.vector)
    | _ => .error .unknownKind

/-- The last steps of R77 for an IOWIN access: with the index `sel` in `IO.ioregsel`, the row of the table that the
access is. Every other instruction stands as it is. -/
def refineIowin (sel : BitVec 8) : Instr → Instr
  | .r32Iowin =>
    match Machine.iowinRegAt sel with
    | .id => .r32IowinId
    | .version => .r32IowinVersion
    | .arbitration => .r32IowinArbitration
    | .config _ => .r32IowinRedirection
    | .destination _ => .r32IowinRedirection
    | .unknown => .iowinUnknown none
  | .w32Iowin data =>
    match Machine.iowinRegAt sel with
    | .id => .w32IowinId data
    | .version => .w32IowinReadOnly data
    | .arbitration => .w32IowinReadOnly data
    | .config _ => .w32IowinConfig data
    | .destination _ => .w32IowinDestination data
    | .unknown => .iowinUnknown (some data)
  | i => i

/-! ## The encoder -/

/-- The descriptor `kind | space << 4 | wcode << 6 | offset << 8` (R68). -/
def descriptor (kind : BitVec 4) (space wcode : BitVec 2) (off : Offset) : Word :=
  0#4 ++ off ++ wcode ++ space ++ kind

/-- No operand of ROUTE. -/
def RouteArgs.none : RouteArgs where
  vector := 0
  mode := 0
  isLevel := false
  destination := 0
  destMode := false

/-- A transaction that is its descriptor alone: every operand zero. -/
def Tx.bare (d : Word) : Tx where
  desc := d
  data := 0
  now := 0
  args := RouteArgs.none
  record := Machine.Record.zero

/-- A WRITE with its data. -/
def Tx.withData (d : Word) (data : BitVec 64) : Tx := { Tx.bare d with data := data }

/-- A 32-bit LAPIC read descriptor: `0x80 | off << 8` (spec/41_lapic_registers.md, template). -/
def lapicRead32 (off : Offset) : Word := descriptor 0#4 0#2 2#2 off

/-- A 32-bit LAPIC write descriptor: `0x81 | off << 8`. -/
def lapicWrite32 (off : Offset) : Word := descriptor 1#4 0#2 2#2 off

/-- The transaction of a 32-bit LAPIC read. -/
def encodeLapicRead (r : LapicReg) : Tx := Tx.bare (lapicRead32 (Machine.lapicOffset r))

/-- The transaction of a 32-bit LAPIC write. -/
def encodeLapicWrite (r : LapicReg) (data : Word) : Tx :=
  Tx.withData (lapicWrite32 (Machine.lapicOffset r)) (data.zeroExtend 64)

/-- The transaction of a read of IOWIN (R147): `0x00001090`. -/
def encodeIowinRead : Tx := Tx.bare (descriptor 0#4 1#2 2#2 Machine.iowinOffset)

/-- The transaction of a write of IOWIN (R147): `0x00001091`. -/
def encodeIowinWrite (data : Word) : Tx :=
  Tx.withData (descriptor 1#4 1#2 2#2 Machine.iowinOffset) (data.zeroExtend 64)

/-- The transaction that spells an instruction (R68 to R70). -/
def encode : Instr → Tx
  | .r32LapicId => encodeLapicRead .id
  | .w32LapicId data => encodeLapicWrite .id data
  | .r32LapicVersion => encodeLapicRead .version
  | .w32LapicVersion data => encodeLapicWrite .version data
  | .r32LapicTpr => encodeLapicRead .tpr
  | .w32LapicTpr data => encodeLapicWrite .tpr data
  | .r32LapicEoi => encodeLapicRead .eoi
  | .w32LapicEoi data => encodeLapicWrite .eoi data
  | .r32LapicLdr => encodeLapicRead .ldr
  | .w32LapicLdr data => encodeLapicWrite .ldr data
  | .r32LapicDfr => encodeLapicRead .dfr
  | .w32LapicDfr data => encodeLapicWrite .dfr data
  | .r32LapicSvr => encodeLapicRead .svr
  | .w32LapicSvr data => encodeLapicWrite .svr data
  | .r32LapicIsr j => encodeLapicRead (.isr j)
  | .w32LapicIsr j data => encodeLapicWrite (.isr j) data
  | .r32LapicTmr j => encodeLapicRead (.tmr j)
  | .w32LapicTmr j data => encodeLapicWrite (.tmr j) data
  | .r32LapicIrr j => encodeLapicRead (.irr j)
  | .w32LapicIrr j data => encodeLapicWrite (.irr j) data
  | .r32LapicError => encodeLapicRead .error
  | .w32LapicError data => encodeLapicWrite .error data
  | .r32LapicIcrLow => encodeLapicRead .icrLow
  | .w32LapicIcrLow data => encodeLapicWrite .icrLow data
  | .r32LapicIcrHigh => encodeLapicRead .icrHigh
  | .w32LapicIcrHigh data => encodeLapicWrite .icrHigh data
  | .r32LapicLvtTimer => encodeLapicRead .lvtTimer
  | .w32LapicLvtTimer data => encodeLapicWrite .lvtTimer data
  | .r32LapicLvtPerf => encodeLapicRead .lvtPerf
  | .w32LapicLvtPerf data => encodeLapicWrite .lvtPerf data
  | .r32LapicLvtInt0 => encodeLapicRead .lvtInt0
  | .w32LapicLvtInt0 data => encodeLapicWrite .lvtInt0 data
  | .r32LapicLvtInt1 => encodeLapicRead .lvtInt1
  | .w32LapicLvtInt1 data => encodeLapicWrite .lvtInt1 data
  | .r32LapicLvtError => encodeLapicRead .lvtError
  | .w32LapicLvtError data => encodeLapicWrite .lvtError data
  | .r32LapicTimerInitial => encodeLapicRead .timerInitial
  | .w32LapicTimerInitial data now => { encodeLapicWrite .timerInitial data with now := now }
  | .r32LapicTimerCurrent => encodeLapicRead .timerCurrent
  | .w32LapicTimerCurrent data => encodeLapicWrite .timerCurrent data
  | .r32LapicTimerDivide => encodeLapicRead .timerDivide
  | .w32LapicTimerDivide data => encodeLapicWrite .timerDivide data
  | .r32LapicUnlisted off => Tx.bare (lapicRead32 off)
  | .w32LapicUnlisted off data => Tx.withData (lapicWrite32 off) (data.zeroExtend 64)
  | .r8Lapic off => Tx.bare (descriptor 0#4 0#2 0#2 off)
  | .w8Lapic off data => Tx.withData (descriptor 1#4 0#2 0#2 off) (data.zeroExtend 64)
  | .r16Lapic off => Tx.bare (descriptor 0#4 0#2 1#2 off)
  | .w16Lapic off data => Tx.withData (descriptor 1#4 0#2 1#2 off) (data.zeroExtend 64)
  | .r64Lapic off => Tx.bare (descriptor 0#4 0#2 3#2 off)
  | .w64Lapic off data => Tx.withData (descriptor 1#4 0#2 3#2 off) data
  | .r32Ioregsel => Tx.bare (descriptor 0#4 1#2 2#2 Machine.ioregselOffset)
  | .w32Ioregsel data => Tx.withData (descriptor 1#4 1#2 2#2 Machine.ioregselOffset) (data.zeroExtend 64)
  | .r32Iowin => encodeIowinRead
  | .w32Iowin data => encodeIowinWrite data
  | .r32IowinId => encodeIowinRead
  | .w32IowinId data => encodeIowinWrite data
  | .r32IowinVersion => encodeIowinRead
  | .r32IowinArbitration => encodeIowinRead
  | .w32IowinReadOnly data => encodeIowinWrite data
  | .r32IowinRedirection => encodeIowinRead
  | .w32IowinConfig data => encodeIowinWrite data
  | .w32IowinDestination data => encodeIowinWrite data
  | .iowinUnknown none => encodeIowinRead
  | .iowinUnknown (some data) => encodeIowinWrite data
  | .r32IoapicUnlisted off => Tx.bare (descriptor 0#4 1#2 2#2 off)
  | .w32IoapicUnlisted off data => Tx.withData (descriptor 1#4 1#2 2#2 off) (data.zeroExtend 64)
  | .r8Ioapic off => Tx.bare (descriptor 0#4 1#2 0#2 off)
  | .w8Ioapic off data => Tx.withData (descriptor 1#4 1#2 0#2 off) (data.zeroExtend 64)
  | .r16Ioapic off => Tx.bare (descriptor 0#4 1#2 1#2 off)
  | .w16Ioapic off data => Tx.withData (descriptor 1#4 1#2 1#2 off) (data.zeroExtend 64)
  | .r64Ioapic off => Tx.bare (descriptor 0#4 1#2 3#2 off)
  | .w64Ioapic off data => Tx.withData (descriptor 1#4 1#2 3#2 off) data
  | .raiseLine line => Tx.bare (descriptor 2#4 0#2 0#2 line)
  | .lowerLine line => Tx.bare (descriptor 3#4 0#2 0#2 line)
  | .ack => Tx.bare (descriptor 4#4 0#2 0#2 0#20)
  | .tick now => { Tx.bare (descriptor 5#4 0#2 0#2 0#20) with now := now }
  | .reset now => { Tx.bare (descriptor 6#4 0#2 0#2 0#20) with now := now }
  | .restore record => { Tx.bare (descriptor 7#4 0#2 0#2 0#20) with record := record }
  | .snapshot => Tx.bare (descriptor 8#4 0#2 0#2 0#20)
  | .route args => { Tx.bare (descriptor 9#4 0#2 0#2 0#20) with args := args }
  | .remoteEoi vector =>
    { Tx.bare (descriptor 10#4 0#2 0#2 0#20) with args := { RouteArgs.none with vector := vector } }

/-- The instruction that decoding an instruction's own transaction gives: itself, but for a row of an IOWIN register,
whose transaction is the IOWIN access that dispatches (R150, R151, log 9). -/
def carrier : Instr → Instr
  | .r32IowinId => .r32Iowin
  | .w32IowinId data => .w32Iowin data
  | .r32IowinVersion => .r32Iowin
  | .r32IowinArbitration => .r32Iowin
  | .w32IowinReadOnly data => .w32Iowin data
  | .r32IowinRedirection => .r32Iowin
  | .w32IowinConfig data => .w32Iowin data
  | .w32IowinDestination data => .w32Iowin data
  | .iowinUnknown none => .r32Iowin
  | .iowinUnknown (some data) => .w32Iowin data
  | i => i

/-! ## The host's view -/

/-- The transaction whose descriptor is the low `nbits` bits of `w`, every operand zero (log 10). -/
def tableTx (nbits w : Nat) : Tx := Tx.bare (BitVec.ofNat 32 (w % 2 ^ nbits))

/-- The instruction the decoder reads from a word of spec/opcode_table.json; `none` where it refuses. -/
def decodeTableWord (nbits w : Nat) : Option Instr :=
  match decode (tableTx nbits w) with
  | .ok i => some i
  | .error _ => none

end Sys2Proof
end

