-- ==== Sys2Proof/Config.lean ====
section
/-! DEFINITION. What the source leaves open (spec/00_scope.md R9, R12): the parameters of the block and its free
values. An `opaque` constant has no body, so nothing can be proved of its value. -/

namespace Sys2Proof

/-- The parameters of R9. They are no state (R20): the state carries them unchanged, so that a statement over every
state holds for every choice of them (log 4). -/
structure Params where
  /-- `DIAGNOSTIC`: a category (a) violation faults the block (true) or takes its production fallback (false), R182. -/
  diagnostic : Bool
  /-- `LAPIC_VERSION`, read at LAPIC offset 0x30 (R101). -/
  lapicVersion : Word
  /-- `IOAPIC_VERSION`, read at IOAPIC index 1 (R154). -/
  ioapicVersion : Word
  /-- `LAPIC_BASE` (R51). -/
  lapicBase : Nat
  /-- `IOAPIC_BASE` (R52). -/
  ioapicBase : Nat
  /-- `IOAPIC_WINDOW`, in bytes, at least 0x14 (R9, R52). -/
  ioapicWindow : Nat
  deriving DecidableEq, Repr

/-- The build's `DIAGNOSTIC`: OPEN (decision D1). -/
opaque Config.diagnostic : Bool

/-- The build's `LAPIC_VERSION`: OPEN (decision D29). -/
opaque Config.lapicVersion : Word

/-- The build's `IOAPIC_VERSION`: OPEN (decision D28). -/
opaque Config.ioapicVersion : Word

/-- The build's `LAPIC_BASE`: OPEN (decision D3). -/
opaque Config.lapicBase : Nat

/-- The build's `IOAPIC_BASE`: OPEN (decision D4). -/
opaque Config.ioapicBase : Nat

/-- By how much the build's `IOAPIC_WINDOW` exceeds its least size 0x14: OPEN (decision D4). -/
opaque Config.ioapicWindowExtra : Nat

/-- The build's parameters. -/
def Config.params : Params where
  diagnostic := Config.diagnostic
  lapicVersion := Config.lapicVersion
  ioapicVersion := Config.ioapicVersion
  lapicBase := Config.lapicBase
  ioapicBase := Config.ioapicBase
  ioapicWindow := 0x14 + Config.ioapicWindowExtra

/-- `APIC_ID_RESET` = 0 (R9, decision D9). -/
def Config.apicIdReset : Word := 0

/-- `IOAPIC_ID_RESET` = 0 (R9, decision D27). -/
def Config.ioapicIdReset : BitVec 4 := 0

/-- `draw32()` (R12): the free value of a violating read in production. The argument counts the draws, so that two
draws need not agree (log 5). -/
opaque Config.draw32 : Nat → Word

/-- The upper half of a violating 64-bit read in production, of which R57 and R58 state the low 32 bits only: a free
value (log 6). -/
opaque Config.drawHigh32 : Nat → Word

end Sys2Proof
end

