-- ==== Sys2Proof/Machine/ResetValues.lean ====
section
/-! DEFINITION. The reset value of every field (spec/70_reset_and_hazards.md R201; spec/10_state.md R21 to R43). -/

namespace Sys2Proof.Machine

/-- A masked entry, all else zero: the reset value of every LVT (R31, R32) and of every redirection config word (R40). -/
def maskedEntry : Word := 0x00010000#32

/-- The LAPIC right after RESET at time `now` (R201). -/
def lapicReset (now : Nat) : Lapic where
  id := Config.apicIdReset
  tpr := 0x00#8
  ldr := 0x00000000#32
  dfr := 0xFFFFFFFF#32
  svr := 0x000000FF#32
  isr := 0#256
  tmr := 0#256
  irr := 0#256
  error := 0#32
  readError := 0#32
  icr0 := 0#32
  icr1 := 0#32
  lvtTimer := maskedEntry
  lvtPerf := maskedEntry
  lvtInt0 := maskedEntry
  lvtInt1 := maskedEntry
  lvtError := maskedEntry
  timerDiv := 0#32
  timerShift := 1
  timerInitial := 0#32
  timerCurrent := 0
  nextTick := now

/-- The IOAPIC right after RESET (R201). -/
def ioapicReset : IoApic where
  ioregsel := 0x00#8
  id := Config.ioapicIdReset
  cfg := Vector.replicate 24 maskedEntry
  dest := Vector.replicate 24 0#32
  irqValue := 0#24
  irr := 0#24

end Sys2Proof.Machine
end

