-- ==== Sys2Proof/Machine/State.lean ====
section
/-! DEFINITION. The state of the machine (spec/10_state.md R20), its outputs (R45), and the reasons a step can stop. -/

namespace Sys2Proof.Machine

/-- The category (a) violation codes (spec/60_exceptions.md R183). -/
inductive Violation where
  /-- A1: a LAPIC offset that names no register in the access's direction. -/
  | a1BadOffset
  /-- A2: an access width that is not admitted. -/
  | a2BadWidth
  /-- A3: a vector below 0x10 or equal to 0xFF reaches `deliver`. -/
  | a3BadVector
  /-- A4: a delivery mode that is not implemented. -/
  | a4BadDeliveryMode
  /-- A5: a line number of 24 or above. -/
  | a5BadLine
  /-- A6: an IOWIN index that names no register in the access's direction. -/
  | a6BadIoapicIndex
  /-- A7: an IOAPIC offset other than 0x00 and 0x10. -/
  | a7BadIoapicOffset
  /-- A8: a timer expiry with timer mode 2 or 3. -/
  | a8BadTimerMode
  deriving DecidableEq, Repr

/-- The category (b) anomaly codes (R184). -/
inductive Anomaly where
  /-- B1: ACK with no eligible vector. -/
  | b1SpuriousAck
  /-- B2: EOI with ISR empty. -/
  | b2EoiEmpty
  /-- B3: delivery of a vector that is already pending. -/
  | b3Coalesced
  /-- B4: an 8-bit LAPIC read. -/
  | b4ByteAccess
  deriving DecidableEq, Repr

/-- An event a transaction emits (R45). -/
inductive Event where
  /-- NOTIFY: a vector is deliverable (spec/42_lapic_delivery.md R128). -/
  | notify
  /-- LOG with its code (spec/45_host_interface.md R179). -/
  | log (code : Anomaly)
  deriving DecidableEq, Repr

/-- The result a transaction returns (spec/30_encoding.md R67, R71). -/
inductive Response where
  /-- No result: a write, or a transaction that a violation ended. -/
  | none
  /-- An 8-bit read's data. -/
  | data8 (v : BitVec 8)
  /-- A 16-bit read's data. -/
  | data16 (v : BitVec 16)
  /-- A 32-bit read's data. -/
  | data32 (v : Word)
  /-- A 64-bit read's data. -/
  | data64 (v : BitVec 64)
  /-- ACK's vector or none (R129). -/
  | vector (v : Option Vec)
  /-- SNAPSHOT's record (R175). -/
  | record (r : Record)
  deriving DecidableEq, Repr

/-- What the transaction that ended last put out (R45, log 3). -/
structure Output where
  response : Response
  /-- NOTIFY and LOG events, oldest first. -/
  events : List Event
  deriving DecidableEq, Repr

/-- No response and no event. -/
def Output.empty : Output where
  response := .none
  events := []

/-- The stops that Host.Core calls faults: the spec gives the block none, so the type has no constructor. A violation
is no stop of this kind: it sets `FAULTED` and is a next state (R182, log 17). -/
inductive Fault
  deriving DecidableEq, Repr

/-- Why a step has no next state. -/
inductive Refusal where
  /-- Raised by `exec` for an instruction that has no meaning yet. Safe: nothing follows from it. -/
  | notModelled (mnemonic : String)
  /-- Raised by every transaction but RESET and RESTORE while `FAULTED` holds a code (R182, I27). Safe: the spec gives
  no successor state. -/
  | blockFaulted
  /-- Raised by RESTORE of a record that is not well-formed (R176, I26). Safe: the spec gives no successor state. -/
  | illFormedRestore
  /-- Raised by `step` for a descriptor that spells no transaction (R69, I25). Safe: it never reaches the block. -/
  | notATransaction (why : Reject)
  deriving DecidableEq, Repr

/-- The state of R20, then the model's own fields (INVENTORY.md, State). -/
structure State where
  /-- R21 to R36. -/
  lapic : Lapic
  /-- R37 to R43. -/
  ioapic : IoApic
  /-- `FAULTED`, R44. -/
  faulted : Option Violation
  /-- The model's own: the parameters of R9, which no step changes (log 4). -/
  params : Params
  /-- The model's own: how many `draw32()` values have been taken (log 5). -/
  draws : Nat
  /-- The model's own: the transactions issued and not yet run, oldest first (log 1). -/
  pending : List Tx
  /-- The model's own: the outputs of the transaction that ended last (log 3). -/
  out : Output
  deriving DecidableEq, Repr

/-! ## Updates -/

/-- `s` with another LAPIC record. -/
def State.withLapic (s : State) (l : Lapic) : State := { s with lapic := l }

/-- `s` with another IOAPIC record. -/
def State.withIoapic (s : State) (io : IoApic) : State := { s with ioapic := io }

/-- `s` with `FAULTED` set to `f`. -/
def State.withFaulted (s : State) (f : Option Violation) : State := { s with faulted := f }

/-- `s` with another count of draws. -/
def State.withDraws (s : State) (n : Nat) : State := { s with draws := n }

/-- `s` with another queue of issued transactions. -/
def State.withPending (s : State) (q : List Tx) : State := { s with pending := q }

/-- `s` with other outputs. -/
def State.withOut (s : State) (o : Output) : State := { s with out := o }

/-- The machine right after RESET (R201) at time 0 (log 7), with nothing issued yet. -/
def State.reset : State where
  lapic := lapicReset 0
  ioapic := ioapicReset
  faulted := none
  params := Config.params
  draws := 0
  pending := []
  out := Output.empty

end Sys2Proof.Machine
end

