-- ==== Sys2Proof/Machine/Flags.lean ====
section
/-! DEFINITION. The block has no condition flags (spec/10_state.md R19). Its status bits are remote IRR and delivery
status, bits of a redirection config word (R40); its status level is INTR, computed from the arbiter
(spec/42_lapic_delivery.md R127, R130). -/

namespace Sys2Proof.Machine

/-- Remote IRR, bit 14 of a config word (R82). -/
def remoteIrr (cfg : Word) : Bool := cfg.getLsbD 14

/-- A config word with remote IRR set (R160). -/
def setRemoteIrr (cfg : Word) : Word := cfg ||| remoteIrrBit

/-- A config word with remote IRR cleared (R163). -/
def clearRemoteIrr (cfg : Word) : Word := cfg &&& ~~~remoteIrrBit

/-- A config word with delivery status cleared (R160). -/
def clearDelivStatus (cfg : Word) : Word := cfg &&& ~~~delivStatusBit

/-- The priority class of a vector or of the TPR, in place: bits 7:4 (R127, R188). -/
def priorityClass (v : BitVec 8) : BitVec 8 := v &&& 0xF0#8

/-- ISR blocks `v` when its highest vector is at or above `v`; `none` is below every vector (R127). -/
def blockedByIsr (isr : Bits256) (v : Vec) : Bool :=
  match highest isr with
  | none => false
  | some u => decide (v ≤ u)

/-- `eligible()`, the priority arbiter (R127): the vector the CPU would receive now. -/
def eligible (l : Lapic) : Option Vec :=
  match highest l.irr with
  | none => none
  | some v =>
    if blockedByIsr l.isr v then none
    else if priorityClass v ≤ priorityClass l.tpr then none
    else some v

/-- INTR (R130): a level, a function of the state alone. -/
def intr (s : State) : Bool := (eligible s.lapic).isSome

end Sys2Proof.Machine
end

