-- ==== Sys2Proof/Machine/Ops.lean ====
section
/-! DEFINITION. The operations the transactions share: the frame of a transaction, violations and anomalies
(spec/60_exceptions.md R181 to R184), delivery and arbitration (spec/42_lapic_delivery.md), the timer
(spec/43_lapic_timer.md), the IOAPIC's lines (spec/44_ioapic.md), and interrupt entry and return (R190, R192). -/

namespace Sys2Proof.Machine

/-! ## The frame of a transaction -/

/-- The outputs of the transaction before are gone (log 3). -/
def clearOut (s : State) : State := s.withOut Output.empty

/-- `emit e`: an event of the running transaction (R45). -/
def emit (e : Event) (s : State) : State := s.withOut { s.out with events := s.out.events ++ [e] }

/-- The result of the running transaction (R71). -/
def respond (r : Response) (s : State) : State := s.withOut { s.out with response := r }

/-- The statement after a call that may have raised a violation: a violation that faulted the block ends the
transaction at once (R182). -/
def andThen (s : State) (f : State → State) : State := if s.faulted.isSome then s else f s

/-- A transaction other than RESET and RESTORE: a FAULTED block refuses it (R182); otherwise it runs to its end (R60),
and the state it leaves is the next state. -/
def transact (f : State → State) (s : State) : Host.Outcome State Fault Refusal :=
  if s.faulted.isSome then .refused .blockFaulted else .next (f (clearOut s))

/-! ## Violations and anomalies -/

/-- `raise Violation(code)` with its `production:` continuation (R12, R182). Under `DIAGNOSTIC` the block enters the
FAULTED state with that code, and what ran before keeps its effect (R191); otherwise the fallback runs. -/
def raiseViolation (code : Violation) (production : State → State) (s : State) : State :=
  if s.params.diagnostic then s.withFaulted (some code) else production s

/-- `log Anomaly(code)`: a LOG event and nothing else (R184). -/
def logAnomaly (code : Anomaly) (s : State) : State := emit (.log code) s

/-- What a 32-bit read gives: the state after it and its data, or no data where a violation ended it. -/
abbrev ReadResult := State × Option Word

/-- A read that changes no state and returns `w` (R59). -/
def readsAs (w : Word) (s : State) : ReadResult := (s, some w)

/-- One `draw32()` has been taken. -/
def takeDraw (s : State) : State := s.withDraws (s.draws + 1)

/-- A read that raises a violation: in production it returns `draw32()` (R12, R183). -/
def violatingRead (code : Violation) (s : State) : ReadResult :=
  (raiseViolation code takeDraw s, if s.params.diagnostic then none else some (Config.draw32 s.draws))

/-- The end of a read: its data, in the form `f` gives it, are the transaction's result. -/
def finishRead (f : Word → Response) (r : ReadResult) : State :=
  match r.2 with
  | some w => respond (f w) r.1
  | none => r.1

/-- A read of a width that is not admitted: A2; in production `draw32()` truncated to the width (R57, R58). -/
def badWidthRead (f : Word → Response) (s : State) : State := finishRead f (violatingRead .a2BadWidth s)

/-- The 8-bit result of a draw. -/
def draw8 (w : Word) : Response := .data8 (w.extractLsb' 0 8)

/-- The 16-bit result of a draw. -/
def draw16 (w : Word) : Response := .data16 (w.extractLsb' 0 16)

/-- The 64-bit result of a draw numbered `n`: the draw below an upper half that the spec does not state (log 6). -/
def draw64 (n : Nat) (w : Word) : Response := .data64 (Config.drawHigh32 n ++ w)

/-- A write that raises a violation and in production changes no state (R183). -/
def violatingWrite (code : Violation) (s : State) : State := raiseViolation code id s

/-! ## Delivery and arbitration -/

/-- `check_vector()` (R128): NOTIFY when a vector is eligible. -/
def checkVector (s : State) : State :=
  match eligible s.lapic with
  | some _ => emit .notify s
  | none => s

/-- A vector that may be delivered: 0x10 to 0xFE (R78). -/
def validVector (v : Vec) : Bool := decide (0x10#8 ≤ v) && decide (v ≠ 0xFF#8)

/-- The LAPIC after `deliver` accepts `v`: IRR set, TMR set or cleared by the trigger mode (R125). -/
def acceptVector (l : Lapic) (v : Vec) (isLevel : Bool) : Lapic :=
  { l with
    irr := setBit l.irr v
    tmr := if isLevel then setBit l.tmr v else clearBit l.tmr v }

/-- `deliver(vector, mode, is_level)` (R125), its checks in the order of the rule (R189). -/
def deliver (v : Vec) (mode : BitVec 3) (isLevel : Bool) (s : State) : State :=
  if mode = 4#3 ∨ mode = 5#3 then s
  else if mode ≠ 0#3 ∧ mode ≠ 1#3 then raiseViolation .a4BadDeliveryMode id s
  else if validVector v = false then raiseViolation .a3BadVector id s
  else if getBit s.lapic.irr v then logAnomaly .b3Coalesced s
  else checkVector (s.withLapic (acceptVector s.lapic v isLevel))

/-- `route(vector, mode, is_level, destination, destmode)` (R126): the destination is not examined. -/
def route (a : RouteArgs) (s : State) : State := deliver a.vector a.mode a.isLevel s

/-- The ICR dispatch by shorthand (R133) of the data `data` with the destination byte of `icr1`. -/
def dispatchIpi (data icr1 : Word) (s : State) : State :=
  let args : RouteArgs :=
    { vector := vectorField data, mode := modeField data, isLevel := isLevelField data, destination := destByte icr1,
      destMode := destModeField data }
  match (shorthandField data).toNat with
  | 0 => route args s
  | 1 => deliver args.vector args.mode args.isLevel s
  | 2 => deliver args.vector args.mode args.isLevel s
  | _ => s

/-- The ICR-low write (R132): the store, then the dispatch. -/
def writeIcrLow (data : Word) (s : State) : State :=
  dispatchIpi data s.lapic.icr1 (s.withLapic { s.lapic with icr0 := storedIcrLow data })

/-! ## The IOAPIC's lines -/

/-- `IO.cfg[k] <- w`. -/
def setConfig (k : Line) (w : Word) (s : State) : State :=
  s.withIoapic { s.ioapic with cfg := s.ioapic.cfg.set k w }

/-- `IO.dest[k] <- w`. -/
def setDest (k : Line) (w : Word) (s : State) : State :=
  s.withIoapic { s.ioapic with dest := s.ioapic.dest.set k w }

/-- A 24-bit line register with bit `k` set. -/
def setLine (b : BitVec 24) (k : Line) : BitVec 24 := b ||| (1#24 <<< k.val)

/-- A 24-bit line register with bit `k` cleared. -/
def clearLine (b : BitVec 24) (k : Line) : BitVec 24 := b &&& ~~~(1#24 <<< k.val)

/-- `IO.irr <- b`. -/
def setIoIrr (b : BitVec 24) (s : State) : State := s.withIoapic { s.ioapic with irr := b }

/-- `IO.irq_value <- b`. -/
def setIrqValue (b : BitVec 24) (s : State) : State := s.withIoapic { s.ioapic with irqValue := b }

/-- The operands `check_irq(i)` passes to `route` (R160): the entry's config word as it was read, and the top byte of
its destination word. -/
def entryArgs (cfg dest : Word) : RouteArgs :=
  { vector := vectorField cfg, mode := modeField cfg, isLevel := isLevelField cfg, destination := destByte dest,
    destMode := destModeField cfg }

/-- The attempt of `check_irq(i)` (R160): route, or A4 for a mode other than fixed and lowest-priority, then clear the
entry's delivery status. -/
def attempt (i : Line) (cfg : Word) (s : State) : State :=
  andThen
    (if modeField cfg = 0#3 ∨ modeField cfg = 1#3 then route (entryArgs cfg (destOf s.ioapic i)) s
      else raiseViolation .a4BadDeliveryMode id s)
    fun t => setConfig i (clearDelivStatus (configOf t.ioapic i)) t

/-- `check_irq(i)` (R160). -/
def checkIrq (i : Line) (s : State) : State :=
  let cfg := configOf s.ioapic i
  if s.ioapic.irr.getLsbD i = false then s
  else if isMasked cfg then s
  else if isLevelField cfg = false then attempt i cfg (setIoIrr (clearLine s.ioapic.irr i) s)
  else if remoteIrr cfg then s
  else attempt i cfg (setConfig i (setRemoteIrr cfg) s)

/-- One entry of the scan of `remote_eoi` (R163). -/
def releaseEntry (v : Vec) (k : Line) (s : State) : State :=
  if vectorField (configOf s.ioapic k) = v ∧ remoteIrr (configOf s.ioapic k) = true then
    checkIrq k (setConfig k (clearRemoteIrr (configOf s.ioapic k)) s)
  else s

/-- `remote_eoi(vector)` (R163): all 24 entries in ascending order; a violation that faults the block ends the scan. -/
def remoteEoi (v : Vec) (s : State) : State :=
  (List.finRange 24).foldl (fun t k => andThen t (releaseEntry v k)) s

/-- `set_irq(i)` for a line that exists (R161). -/
def setIrq (i : Line) (s : State) : State :=
  if s.ioapic.irqValue.getLsbD i then s
  else
    let s := setIrqValue (setLine s.ioapic.irqValue i) s
    if isLevelField (configOf s.ioapic i) = false ∧ isMasked (configOf s.ioapic i) = true then s
    else checkIrq i (setIoIrr (setLine s.ioapic.irr i) s)

/-- `clear_irq(i)` for a line that exists (R162). -/
def clearIrq (i : Line) (s : State) : State :=
  let s := setIrqValue (clearLine s.ioapic.irqValue i) s
  if isLevelField (configOf s.ioapic i) then setIoIrr (clearLine s.ioapic.irr i) s else s

/-- An operation on a line number: A5 from 24 up (R161, R162). -/
def onLine (n : Offset) (f : Line → State → State) (s : State) : State :=
  if h : n.toNat < 24 then f ⟨n.toNat, h⟩ s else raiseViolation .a5BadLine id s

/-! ## Interrupt entry and return -/

/-- Interrupt entry, `acknowledge_irq()` (R129, R190): the eligible vector moves from IRR to ISR and is returned. -/
def acknowledge (s : State) : State :=
  match eligible s.lapic with
  | none => respond (.vector none) (logAnomaly .b1SpuriousAck s)
  | some v =>
    respond (.vector (some v))
      (s.withLapic { s.lapic with irr := clearBit s.lapic.irr v, isr := setBit s.lapic.isr v })

/-- Interrupt return, the EOI protocol (R131, R192): the highest vector in service is retired, a level source is
released, and the arbiter runs again. -/
def endOfInterrupt (s : State) : State :=
  match highest s.lapic.isr with
  | none => logAnomaly .b2EoiEmpty s
  | some v =>
    let s := s.withLapic { s.lapic with isr := clearBit s.lapic.isr v }
    andThen (if getBit s.lapic.tmr v then remoteEoi v s else s) checkVector

/-! ## The timer -/

/-- `L.timer_current <- n`. -/
def setCurrent (n : Nat) (s : State) : State := s.withLapic { s.lapic with timerCurrent := n }

/-- The expiry's delivery: fixed, edge, unless the timer LVT is masked (R145). -/
def fireTimer (s : State) : State :=
  if isMasked s.lapic.lvtTimer then s else deliver (vectorField s.lapic.lvtTimer) 0#3 false s

/-- The reloaded count of a periodic expiry that overshot zero by `past` (R145): in 1 to the initial count, or 0 where
the initial count is 0. -/
def reloadCount (initial past : Nat) : Nat := if initial = 0 then 0 else initial - past % initial

/-- `expire(c)` (R145), where `past` is `-c`. -/
def expire (past : Nat) (s : State) : State :=
  match (timerModeField s.lapic.lvtTimer).toNat with
  | 0 => fireTimer (setCurrent 0 s)
  | 1 => fireTimer (setCurrent (reloadCount s.lapic.timerInitial.toNat past) s)
  | _ => raiseViolation .a8BadTimerMode (setCurrent 0) s

/-- The steps `timer(now)` takes (R144). -/
def timerSteps (l : Lapic) (now : Nat) : Nat := (now - l.nextTick) / 2 ^ l.timerShift

/-- `timer(now)` (R144). -/
def timer (now : Nat) (s : State) : State :=
  let steps := timerSteps s.lapic now
  if s.lapic.timerCurrent = 0 then s
  else if now ≤ s.lapic.nextTick then s
  else if steps = 0 then s
  else
    let s := s.withLapic { s.lapic with nextTick := s.lapic.nextTick + steps * 2 ^ s.lapic.timerShift }
    if steps < s.lapic.timerCurrent then setCurrent (s.lapic.timerCurrent - steps) s
    else expire (steps - s.lapic.timerCurrent) s

/-- The initial-count write (R141). -/
def armTimer (data : Word) (now : Nat) (l : Lapic) : Lapic :=
  { l with timerInitial := data, timerCurrent := data.toNat, nextTick := now }

/-- The divide-configuration write (R139). -/
def setDivider (data : Word) (l : Lapic) : Lapic :=
  { l with timerDiv := storedDivide data, timerShift := dividerShift (dividerCode data) }

/-! ## Register reads -/

/-- The value a 32-bit read of a LAPIC register returns; `none` for EOI, which is write-only (R99 to R120, R140, R142,
R143). -/
def lapicValue (s : State) : LapicReg → Option Word
  | .id => some s.lapic.id
  | .version => some s.params.lapicVersion
  | .tpr => some (s.lapic.tpr.zeroExtend 32)
  | .eoi => none
  | .ldr => some s.lapic.ldr
  | .dfr => some s.lapic.dfr
  | .svr => some s.lapic.svr
  | .isr j => some (wordOf s.lapic.isr j)
  | .tmr j => some (wordOf s.lapic.tmr j)
  | .irr j => some (wordOf s.lapic.irr j)
  | .error => some s.lapic.readError
  | .icrLow => some s.lapic.icr0
  | .icrHigh => some s.lapic.icr1
  | .lvtTimer => some s.lapic.lvtTimer
  | .lvtPerf => some s.lapic.lvtPerf
  | .lvtInt0 => some s.lapic.lvtInt0
  | .lvtInt1 => some s.lapic.lvtInt1
  | .lvtError => some s.lapic.lvtError
  | .timerInitial => some s.lapic.timerInitial
  | .timerCurrent => some (BitVec.ofNat 32 s.lapic.timerCurrent)
  | .timerDivide => some s.lapic.timerDiv

/-- A 32-bit read of a LAPIC register (R98): its value, or A1 for a register that cannot be read (R120). -/
def readLapicReg (r : LapicReg) (s : State) : ReadResult :=
  match lapicValue s r with
  | some w => readsAs w s
  | none => violatingRead .a1BadOffset s

/-- `MemRead(LAPIC, off, 4)` (R98): the register at `off`, or A1 where the table lists none (R54, R122). -/
def lapicRead (off : Offset) (s : State) : ReadResult :=
  match lapicRegAt off with
  | some r => readLapicReg r s
  | none => violatingRead .a1BadOffset s

/-- The 8-bit LAPIC read (R55): LOG B4, the aligned 32-bit read, then the byte lane. -/
def lapicReadByte (off : Offset) (s : State) : State :=
  finishRead (fun w => .data8 (byteLane w off)) (lapicRead (alignedOffset off) (logAnomaly .b4ByteAccess s))

/-- The IOWIN read of the selected register (R150, R152, R154, R155, R157, R164). -/
def readIowin (r : IowinReg) (s : State) : ReadResult :=
  match r with
  | .id => readsAs (ioIdWord s.ioapic.id) s
  | .version => readsAs s.params.ioapicVersion s
  | .arbitration => readsAs (ioIdWord s.ioapic.id) s
  | .config k => readsAs (configOf s.ioapic k) s
  | .destination k => readsAs (destOf s.ioapic k) s
  | .unknown => violatingRead .a6BadIoapicIndex s

/-- The redirection config write (R158): the merge, then `check_irq(k)`. -/
def writeConfig (k : Line) (data : Word) (s : State) : State :=
  checkIrq k (setConfig k (mergeConfig data (configOf s.ioapic k)) s)

/-- The IOWIN write of the selected register (R151, R153, R156, R158, R159, R164). -/
def writeIowin (r : IowinReg) (data : Word) (s : State) : State :=
  match r with
  | .id => s.withIoapic { s.ioapic with id := ioIdField data }
  | .version => violatingWrite .a6BadIoapicIndex s
  | .arbitration => violatingWrite .a6BadIoapicIndex s
  | .config k => writeConfig k data s
  | .destination k => setDest k (topByteOnly data) s
  | .unknown => violatingWrite .a6BadIoapicIndex s

/-- What IOWIN reaches now (R75). -/
def selected (s : State) : IowinReg := iowinRegAt s.ioapic.ioregsel

/-- The IOWIN read as a transaction's body (R150). -/
def iowinReadBody (s : State) : State := finishRead .data32 (readIowin (selected s) s)

/-- The IOWIN write as a transaction's body (R151). -/
def iowinWriteBody (data : Word) (s : State) : State := writeIowin (selected s) data s

/-! ## Host operations and fetch -/

/-- RESET (R201): every field of the record, and `FAULTED`; the model's own fields stand. -/
def resetState (now : Nat) (s : State) : State :=
  (((clearOut s).withLapic (lapicReset now)).withIoapic ioapicReset).withFaulted none

/-- RESTORE of a well-formed record (R176): every field is overwritten and nothing is re-evaluated. -/
def restoreState (r : Record) (s : State) : State :=
  (((clearOut s).withLapic r.lapic).withIoapic r.ioapic).withFaulted none

/-- The record SNAPSHOT returns (R175). -/
def snapshotOf (s : State) : Record := { lapic := s.lapic, ioapic := s.ioapic }

/-- The oldest issued transaction, and the state without it (log 1). -/
def fetch (s : State) : Option (Tx × State) :=
  match s.pending with
  | [] => none
  | t :: rest => some (t, s.withPending rest)

/-- A step with nothing issued: nothing happens (log 2). -/
def idle (s : State) : State := clearOut s

/-- A transaction issued ahead of every other (log 1). -/
def issueFirst (t : Tx) (s : State) : State := s.withPending (t :: s.pending)

end Sys2Proof.Machine
end

