-- ==== Sys2Proof/Machine/HostControl.lean ====
section
/-! DEFINITION. The meanings of the host's transactions: RESET (spec/70_reset_and_hazards.md R201), RESTORE and SNAPSHOT
(spec/45_host_interface.md R175, R176). -/

namespace Sys2Proof.Machine

/-- R201: accepted in any state, FAULTED included. -/
def execReset (now : Nat) (s : State) : Host.Outcome State Fault Refusal := .next (resetState now s)

/-- R176: accepted in any state, FAULTED included; a record that is not well-formed is refused. -/
def execRestore (record : Record) (s : State) : Host.Outcome State Fault Refusal :=
  if record.WellFormed then .next (restoreState record s) else .refused .illFormedRestore

/-- R175. -/
def execSnapshot (s : State) : Host.Outcome State Fault Refusal :=
  transact (fun t => respond (.record (snapshotOf t)) t) s

end Sys2Proof.Machine
end

