-- ==== Sys2Proof/Machine/Ioapic.lean ====
section
/-! DEFINITION. The meanings of the IOAPIC's window accesses (spec/44_ioapic.md R147 to R159, R164; spec/20_memory.md
R58) and of its lines (R161, R162, and the internal call REMOTE_EOI, R163).

The rows of one IOWIN register share the transaction of IOWIN itself, and which register it reaches is the index's, not
the access's, to say (spec/30_encoding.md R75). So a row's meaning is its own rule where `IO.ioregsel` selects its
register, and the dispatching access where it selects another (log 9). -/

namespace Sys2Proof.Machine

/-- R148. -/
def execR32Ioregsel (s : State) : Host.Outcome State Fault Refusal :=
  transact (fun t => finishRead .data32 (readsAs (t.ioapic.ioregsel.zeroExtend 32) t)) s

/-- R149: no check of the index. -/
def execW32Ioregsel (data : Word) (s : State) : Host.Outcome State Fault Refusal :=
  transact (fun t => t.withIoapic { t.ioapic with ioregsel := lowByte data }) s

/-- R150. -/
def execR32Iowin (s : State) : Host.Outcome State Fault Refusal := transact iowinReadBody s

/-- R151. -/
def execW32Iowin (data : Word) (s : State) : Host.Outcome State Fault Refusal := transact (iowinWriteBody data) s

/-- R152. -/
def execR32IowinId (s : State) : Host.Outcome State Fault Refusal :=
  transact (fun t =>
    match selected t with
    | .id => finishRead .data32 (readsAs (ioIdWord t.ioapic.id) t)
    | _ => iowinReadBody t) s

/-- R153. -/
def execW32IowinId (data : Word) (s : State) : Host.Outcome State Fault Refusal :=
  transact (fun t =>
    match selected t with
    | .id => t.withIoapic { t.ioapic with id := ioIdField data }
    | _ => iowinWriteBody data t) s

/-- R154. -/
def execR32IowinVersion (s : State) : Host.Outcome State Fault Refusal :=
  transact (fun t =>
    match selected t with
    | .version => finishRead .data32 (readsAs t.params.ioapicVersion t)
    | _ => iowinReadBody t) s

/-- R155. -/
def execR32IowinArbitration (s : State) : Host.Outcome State Fault Refusal :=
  transact (fun t =>
    match selected t with
    | .arbitration => finishRead .data32 (readsAs (ioIdWord t.ioapic.id) t)
    | _ => iowinReadBody t) s

/-- R156. -/
def execW32IowinReadOnly (data : Word) (s : State) : Host.Outcome State Fault Refusal :=
  transact (fun t =>
    match selected t with
    | .version => violatingWrite .a6BadIoapicIndex t
    | .arbitration => violatingWrite .a6BadIoapicIndex t
    | _ => iowinWriteBody data t) s

/-- R157. -/
def execR32IowinRedirection (s : State) : Host.Outcome State Fault Refusal :=
  transact (fun t =>
    match selected t with
    | .config k => finishRead .data32 (readsAs (configOf t.ioapic k) t)
    | .destination k => finishRead .data32 (readsAs (destOf t.ioapic k) t)
    | _ => iowinReadBody t) s

/-- R158. -/
def execW32IowinConfig (data : Word) (s : State) : Host.Outcome State Fault Refusal :=
  transact (fun t =>
    match selected t with
    | .config k => writeConfig k data t
    | _ => iowinWriteBody data t) s

/-- R159: no `check_irq`. -/
def execW32IowinDestination (data : Word) (s : State) : Host.Outcome State Fault Refusal :=
  transact (fun t =>
    match selected t with
    | .destination k => setDest k (topByteOnly data) t
    | _ => iowinWriteBody data t) s

/-- R164, a read (`none`) or a write (`some data`). -/
def execIowinUnknown (write : Option Word) (s : State) : Host.Outcome State Fault Refusal :=
  transact (fun t =>
    match write, selected t with
    | none, .unknown => finishRead .data32 (violatingRead .a6BadIoapicIndex t)
    | none, _ => iowinReadBody t
    | some _, .unknown => violatingWrite .a6BadIoapicIndex t
    | some data, _ => iowinWriteBody data t) s

/-- R58: A7. -/
def execR32IoapicUnlisted (_off : Offset) (s : State) : Host.Outcome State Fault Refusal :=
  transact (fun t => finishRead .data32 (violatingRead .a7BadIoapicOffset t)) s

/-- R58: A7. -/
def execW32IoapicUnlisted (_off : Offset) (_data : Word) (s : State) : Host.Outcome State Fault Refusal :=
  transact (violatingWrite .a7BadIoapicOffset) s

/-- R161. -/
def execRaiseLine (line : Offset) (s : State) : Host.Outcome State Fault Refusal := transact (onLine line setIrq) s

/-- R162. -/
def execLowerLine (line : Offset) (s : State) : Host.Outcome State Fault Refusal := transact (onLine line clearIrq) s

/-- R163. -/
def execRemoteEoi (vector : Vec) (s : State) : Host.Outcome State Fault Refusal := transact (remoteEoi vector) s

end Sys2Proof.Machine
end

