-- ==== Sys2Proof/Machine/LapicDelivery.lean ====
section
/-! DEFINITION. The meanings of the transactions of arbitration and delivery (spec/42_lapic_delivery.md): the EOI write
(R131), the ICR-low write (R132, R133), ACK (R129) and the internal call ROUTE (R126). -/

namespace Sys2Proof.Machine

/-- R131: the data is ignored. -/
def execW32LapicEoi (_data : Word) (s : State) : Host.Outcome State Fault Refusal := transact endOfInterrupt s

/-- R132, R133. -/
def execW32LapicIcrLow (data : Word) (s : State) : Host.Outcome State Fault Refusal := transact (writeIcrLow data) s

/-- R129. -/
def execAck (s : State) : Host.Outcome State Fault Refusal := transact acknowledge s

/-- R126. -/
def execRoute (args : RouteArgs) (s : State) : Host.Outcome State Fault Refusal := transact (route args) s

end Sys2Proof.Machine
end

