-- ==== Sys2Proof/Machine/LapicRegisters.lean ====
section
/-! DEFINITION. The meanings of the 32-bit LAPIC register accesses (spec/41_lapic_registers.md R99 to R122), the EOI and
ICR-low writes apart. -/

namespace Sys2Proof.Machine

/-- A 32-bit LAPIC read as a transaction (R98). -/
def readTransaction (r : LapicReg) (s : State) : Host.Outcome State Fault Refusal :=
  transact (fun t => finishRead .data32 (readLapicReg r t)) s

/-- A 32-bit LAPIC write that only changes LAPIC fields, as a transaction (R123). -/
def writeTransaction (f : Lapic → Lapic) (s : State) : Host.Outcome State Fault Refusal :=
  transact (fun t => t.withLapic (f t.lapic)) s

/-- A write to a LAPIC register that is read-only, as a transaction: A1 (R121). -/
def readOnlyTransaction (s : State) : Host.Outcome State Fault Refusal :=
  transact (violatingWrite .a1BadOffset) s

/-- R99. -/
def execR32LapicId (s : State) : Host.Outcome State Fault Refusal := readTransaction .id s

/-- R100. -/
def execW32LapicId (data : Word) (s : State) : Host.Outcome State Fault Refusal :=
  writeTransaction (fun l => { l with id := data }) s

/-- R101. -/
def execR32LapicVersion (s : State) : Host.Outcome State Fault Refusal := readTransaction .version s

/-- R121: the data is dropped. -/
def execW32LapicVersion (_data : Word) (s : State) : Host.Outcome State Fault Refusal := readOnlyTransaction s

/-- R102. -/
def execR32LapicTpr (s : State) : Host.Outcome State Fault Refusal := readTransaction .tpr s

/-- R103: the store, then `check_vector`. -/
def execW32LapicTpr (data : Word) (s : State) : Host.Outcome State Fault Refusal :=
  transact (fun t => checkVector (t.withLapic { t.lapic with tpr := lowByte data })) s

/-- R120: EOI is write-only. -/
def execR32LapicEoi (s : State) : Host.Outcome State Fault Refusal := readTransaction .eoi s

/-- R104. -/
def execR32LapicLdr (s : State) : Host.Outcome State Fault Refusal := readTransaction .ldr s

/-- R105. -/
def execW32LapicLdr (data : Word) (s : State) : Host.Outcome State Fault Refusal :=
  writeTransaction (fun l => { l with ldr := topByteOnly data }) s

/-- R106. -/
def execR32LapicDfr (s : State) : Host.Outcome State Fault Refusal := readTransaction .dfr s

/-- R107. -/
def execW32LapicDfr (data : Word) (s : State) : Host.Outcome State Fault Refusal :=
  writeTransaction (fun l => { l with dfr := storedDfr data }) s

/-- R108. -/
def execR32LapicSvr (s : State) : Host.Outcome State Fault Refusal := readTransaction .svr s

/-- R109. -/
def execW32LapicSvr (data : Word) (s : State) : Host.Outcome State Fault Refusal :=
  writeTransaction (fun l => { l with svr := data }) s

/-- R110. -/
def execR32LapicIsr (j : BitVec 3) (s : State) : Host.Outcome State Fault Refusal := readTransaction (.isr j) s

/-- R121. -/
def execW32LapicIsr (_j : BitVec 3) (_data : Word) (s : State) : Host.Outcome State Fault Refusal :=
  readOnlyTransaction s

/-- R111. -/
def execR32LapicTmr (j : BitVec 3) (s : State) : Host.Outcome State Fault Refusal := readTransaction (.tmr j) s

/-- R121. -/
def execW32LapicTmr (_j : BitVec 3) (_data : Word) (s : State) : Host.Outcome State Fault Refusal :=
  readOnlyTransaction s

/-- R112. -/
def execR32LapicIrr (j : BitVec 3) (s : State) : Host.Outcome State Fault Refusal := readTransaction (.irr j) s

/-- R121. -/
def execW32LapicIrr (_j : BitVec 3) (_data : Word) (s : State) : Host.Outcome State Fault Refusal :=
  readOnlyTransaction s

/-- R113: the read clears neither latch. -/
def execR32LapicError (s : State) : Host.Outcome State Fault Refusal := readTransaction .error s

/-- R114: the data is ignored. -/
def execW32LapicError (_data : Word) (s : State) : Host.Outcome State Fault Refusal :=
  writeTransaction (fun l => { l with readError := l.error, error := 0 }) s

/-- R115. -/
def execR32LapicIcrLow (s : State) : Host.Outcome State Fault Refusal := readTransaction .icrLow s

/-- R116. -/
def execR32LapicIcrHigh (s : State) : Host.Outcome State Fault Refusal := readTransaction .icrHigh s

/-- R117: it dispatches nothing. -/
def execW32LapicIcrHigh (data : Word) (s : State) : Host.Outcome State Fault Refusal :=
  writeTransaction (fun l => { l with icr1 := data }) s

/-- R118. -/
def execR32LapicLvtTimer (s : State) : Host.Outcome State Fault Refusal := readTransaction .lvtTimer s

/-- R119: it takes effect at the next `timer(now)`. -/
def execW32LapicLvtTimer (data : Word) (s : State) : Host.Outcome State Fault Refusal :=
  writeTransaction (fun l => { l with lvtTimer := data }) s

/-- R118. -/
def execR32LapicLvtPerf (s : State) : Host.Outcome State Fault Refusal := readTransaction .lvtPerf s

/-- R119: storage only (R32). -/
def execW32LapicLvtPerf (data : Word) (s : State) : Host.Outcome State Fault Refusal :=
  writeTransaction (fun l => { l with lvtPerf := data }) s

/-- R118. -/
def execR32LapicLvtInt0 (s : State) : Host.Outcome State Fault Refusal := readTransaction .lvtInt0 s

/-- R119: storage only (R32). -/
def execW32LapicLvtInt0 (data : Word) (s : State) : Host.Outcome State Fault Refusal :=
  writeTransaction (fun l => { l with lvtInt0 := data }) s

/-- R118. -/
def execR32LapicLvtInt1 (s : State) : Host.Outcome State Fault Refusal := readTransaction .lvtInt1 s

/-- R119: storage only (R32). -/
def execW32LapicLvtInt1 (data : Word) (s : State) : Host.Outcome State Fault Refusal :=
  writeTransaction (fun l => { l with lvtInt1 := data }) s

/-- R118. -/
def execR32LapicLvtError (s : State) : Host.Outcome State Fault Refusal := readTransaction .lvtError s

/-- R119: storage only (R32). -/
def execW32LapicLvtError (data : Word) (s : State) : Host.Outcome State Fault Refusal :=
  writeTransaction (fun l => { l with lvtError := data }) s

/-- R122. -/
def execR32LapicUnlisted (_off : Offset) (s : State) : Host.Outcome State Fault Refusal :=
  transact (fun t => finishRead .data32 (violatingRead .a1BadOffset t)) s

/-- R122. -/
def execW32LapicUnlisted (_off : Offset) (_data : Word) (s : State) : Host.Outcome State Fault Refusal :=
  transact (violatingWrite .a1BadOffset) s

end Sys2Proof.Machine
end

