-- ==== Sys2Proof/Machine/LapicTimer.lean ====
section
/-! DEFINITION. The meanings of the timer's register accesses and of TICK (spec/43_lapic_timer.md R139 to R145; the
write of the current count is spec/41_lapic_registers.md R121). -/

namespace Sys2Proof.Machine

/-- R142. -/
def execR32LapicTimerInitial (s : State) : Host.Outcome State Fault Refusal := readTransaction .timerInitial s

/-- R141: the arming write. -/
def execW32LapicTimerInitial (data : Word) (now : Nat) (s : State) : Host.Outcome State Fault Refusal :=
  writeTransaction (armTimer data now) s

/-- R143: the read does not advance the timer. -/
def execR32LapicTimerCurrent (s : State) : Host.Outcome State Fault Refusal := readTransaction .timerCurrent s

/-- R121. -/
def execW32LapicTimerCurrent (_data : Word) (s : State) : Host.Outcome State Fault Refusal := readOnlyTransaction s

/-- R140. -/
def execR32LapicTimerDivide (s : State) : Host.Outcome State Fault Refusal := readTransaction .timerDivide s

/-- R139: the count and the reference time stand. -/
def execW32LapicTimerDivide (data : Word) (s : State) : Host.Outcome State Fault Refusal :=
  writeTransaction (setDivider data) s

/-- R144. -/
def execTick (now : Nat) (s : State) : Host.Outcome State Fault Refusal := transact (timer now) s

end Sys2Proof.Machine
end

