-- ==== Sys2Proof/Machine/Widths.lean ====
section
/-! DEFINITION. The meanings of the accesses that are not 32 bits wide (spec/20_memory.md R55 to R58): the synthesized
8-bit LAPIC read, and the widths that are A2. -/

namespace Sys2Proof.Machine

/-- R55. -/
def execR8Lapic (off : Offset) (s : State) : Host.Outcome State Fault Refusal := transact (lapicReadByte off) s

/-- R56. -/
def execW8Lapic (_off : Offset) (_data : BitVec 8) (s : State) : Host.Outcome State Fault Refusal :=
  transact (violatingWrite .a2BadWidth) s

/-- R57. -/
def execR16Lapic (_off : Offset) (s : State) : Host.Outcome State Fault Refusal := transact (badWidthRead draw16) s

/-- R57. -/
def execW16Lapic (_off : Offset) (_data : BitVec 16) (s : State) : Host.Outcome State Fault Refusal :=
  transact (violatingWrite .a2BadWidth) s

/-- R57. -/
def execR64Lapic (_off : Offset) (s : State) : Host.Outcome State Fault Refusal :=
  transact (fun t => badWidthRead (draw64 t.draws) t) s

/-- R57. -/
def execW64Lapic (_off : Offset) (_data : BitVec 64) (s : State) : Host.Outcome State Fault Refusal :=
  transact (violatingWrite .a2BadWidth) s

/-- R58. -/
def execR8Ioapic (_off : Offset) (s : State) : Host.Outcome State Fault Refusal := transact (badWidthRead draw8) s

/-- R58. -/
def execW8Ioapic (_off : Offset) (_data : BitVec 8) (s : State) : Host.Outcome State Fault Refusal :=
  transact (violatingWrite .a2BadWidth) s

/-- R58. -/
def execR16Ioapic (_off : Offset) (s : State) : Host.Outcome State Fault Refusal := transact (badWidthRead draw16) s

/-- R58. -/
def execW16Ioapic (_off : Offset) (_data : BitVec 16) (s : State) : Host.Outcome State Fault Refusal :=
  transact (violatingWrite .a2BadWidth) s

/-- R58. -/
def execR64Ioapic (_off : Offset) (s : State) : Host.Outcome State Fault Refusal :=
  transact (fun t => badWidthRead (draw64 t.draws) t) s

/-- R58. -/
def execW64Ioapic (_off : Offset) (_data : BitVec 64) (s : State) : Host.Outcome State Fault Refusal :=
  transact (violatingWrite .a2BadWidth) s

end Sys2Proof.Machine
end

