-- ==== Sys2Proof/Machine/Dispatch.lean ====
section
/-! DEFINITION. `exec`: one arm per constructor of `Instr`, each one direct call of that instruction's meaning. -/

namespace Sys2Proof.Machine

def exec (i : Instr) (s : State) : Host.Outcome State Fault Refusal :=
  match i with
  | .r32LapicId => Sys2Proof.Machine.execR32LapicId s
  | .w32LapicId data => Sys2Proof.Machine.execW32LapicId data s
  | .r32LapicVersion => Sys2Proof.Machine.execR32LapicVersion s
  | .w32LapicVersion data => Sys2Proof.Machine.execW32LapicVersion data s
  | .r32LapicTpr => Sys2Proof.Machine.execR32LapicTpr s
  | .w32LapicTpr data => Sys2Proof.Machine.execW32LapicTpr data s
  | .r32LapicEoi => Sys2Proof.Machine.execR32LapicEoi s
  | .w32LapicEoi data => Sys2Proof.Machine.execW32LapicEoi data s
  | .r32LapicLdr => Sys2Proof.Machine.execR32LapicLdr s
  | .w32LapicLdr data => Sys2Proof.Machine.execW32LapicLdr data s
  | .r32LapicDfr => Sys2Proof.Machine.execR32LapicDfr s
  | .w32LapicDfr data => Sys2Proof.Machine.execW32LapicDfr data s
  | .r32LapicSvr => Sys2Proof.Machine.execR32LapicSvr s
  | .w32LapicSvr data => Sys2Proof.Machine.execW32LapicSvr data s
  | .r32LapicIsr j => Sys2Proof.Machine.execR32LapicIsr j s
  | .w32LapicIsr j data => Sys2Proof.Machine.execW32LapicIsr j data s
  | .r32LapicTmr j => Sys2Proof.Machine.execR32LapicTmr j s
  | .w32LapicTmr j data => Sys2Proof.Machine.execW32LapicTmr j data s
  | .r32LapicIrr j => Sys2Proof.Machine.execR32LapicIrr j s
  | .w32LapicIrr j data => Sys2Proof.Machine.execW32LapicIrr j data s
  | .r32LapicError => Sys2Proof.Machine.execR32LapicError s
  | .w32LapicError data => Sys2Proof.Machine.execW32LapicError data s
  | .r32LapicIcrLow => Sys2Proof.Machine.execR32LapicIcrLow s
  | .w32LapicIcrLow data => Sys2Proof.Machine.execW32LapicIcrLow data s
  | .r32LapicIcrHigh => Sys2Proof.Machine.execR32LapicIcrHigh s
  | .w32LapicIcrHigh data => Sys2Proof.Machine.execW32LapicIcrHigh data s
  | .r32LapicLvtTimer => Sys2Proof.Machine.execR32LapicLvtTimer s
  | .w32LapicLvtTimer data => Sys2Proof.Machine.execW32LapicLvtTimer data s
  | .r32LapicLvtPerf => Sys2Proof.Machine.execR32LapicLvtPerf s
  | .w32LapicLvtPerf data => Sys2Proof.Machine.execW32LapicLvtPerf data s
  | .r32LapicLvtInt0 => Sys2Proof.Machine.execR32LapicLvtInt0 s
  | .w32LapicLvtInt0 data => Sys2Proof.Machine.execW32LapicLvtInt0 data s
  | .r32LapicLvtInt1 => Sys2Proof.Machine.execR32LapicLvtInt1 s
  | .w32LapicLvtInt1 data => Sys2Proof.Machine.execW32LapicLvtInt1 data s
  | .r32LapicLvtError => Sys2Proof.Machine.execR32LapicLvtError s
  | .w32LapicLvtError data => Sys2Proof.Machine.execW32LapicLvtError data s
  | .r32LapicTimerInitial => Sys2Proof.Machine.execR32LapicTimerInitial s
  | .w32LapicTimerInitial data now => Sys2Proof.Machine.execW32LapicTimerInitial data now s
  | .r32LapicTimerCurrent => Sys2Proof.Machine.execR32LapicTimerCurrent s
  | .w32LapicTimerCurrent data => Sys2Proof.Machine.execW32LapicTimerCurrent data s
  | .r32LapicTimerDivide => Sys2Proof.Machine.execR32LapicTimerDivide s
  | .w32LapicTimerDivide data => Sys2Proof.Machine.execW32LapicTimerDivide data s
  | .r32LapicUnlisted off => Sys2Proof.Machine.execR32LapicUnlisted off s
  | .w32LapicUnlisted off data => Sys2Proof.Machine.execW32LapicUnlisted off data s
  | .r8Lapic off => Sys2Proof.Machine.execR8Lapic off s
  | .w8Lapic off data => Sys2Proof.Machine.execW8Lapic off data s
  | .r16Lapic off => Sys2Proof.Machine.execR16Lapic off s
  | .w16Lapic off data => Sys2Proof.Machine.execW16Lapic off data s
  | .r64Lapic off => Sys2Proof.Machine.execR64Lapic off s
  | .w64Lapic off data => Sys2Proof.Machine.execW64Lapic off data s
  | .r32Ioregsel => Sys2Proof.Machine.execR32Ioregsel s
  | .w32Ioregsel data => Sys2Proof.Machine.execW32Ioregsel data s
  | .r32Iowin => Sys2Proof.Machine.execR32Iowin s
  | .w32Iowin data => Sys2Proof.Machine.execW32Iowin data s
  | .r32IowinId => Sys2Proof.Machine.execR32IowinId s
  | .w32IowinId data => Sys2Proof.Machine.execW32IowinId data s
  | .r32IowinVersion => Sys2Proof.Machine.execR32IowinVersion s
  | .r32IowinArbitration => Sys2Proof.Machine.execR32IowinArbitration s
  | .w32IowinReadOnly data => Sys2Proof.Machine.execW32IowinReadOnly data s
  | .r32IowinRedirection => Sys2Proof.Machine.execR32IowinRedirection s
  | .w32IowinConfig data => Sys2Proof.Machine.execW32IowinConfig data s
  | .w32IowinDestination data => Sys2Proof.Machine.execW32IowinDestination data s
  | .iowinUnknown write => Sys2Proof.Machine.execIowinUnknown write s
  | .r32IoapicUnlisted off => Sys2Proof.Machine.execR32IoapicUnlisted off s
  | .w32IoapicUnlisted off data => Sys2Proof.Machine.execW32IoapicUnlisted off data s
  | .r8Ioapic off => Sys2Proof.Machine.execR8Ioapic off s
  | .w8Ioapic off data => Sys2Proof.Machine.execW8Ioapic off data s
  | .r16Ioapic off => Sys2Proof.Machine.execR16Ioapic off s
  | .w16Ioapic off data => Sys2Proof.Machine.execW16Ioapic off data s
  | .r64Ioapic off => Sys2Proof.Machine.execR64Ioapic off s
  | .w64Ioapic off data => Sys2Proof.Machine.execW64Ioapic off data s
  | .raiseLine line => Sys2Proof.Machine.execRaiseLine line s
  | .lowerLine line => Sys2Proof.Machine.execLowerLine line s
  | .ack => Sys2Proof.Machine.execAck s
  | .tick now => Sys2Proof.Machine.execTick now s
  | .reset now => Sys2Proof.Machine.execReset now s
  | .restore record => Sys2Proof.Machine.execRestore record s
  | .snapshot => Sys2Proof.Machine.execSnapshot s
  | .route args => Sys2Proof.Machine.execRoute args s
  | .remoteEoi vector => Sys2Proof.Machine.execRemoteEoi vector s

end Sys2Proof.Machine
end

