-- ==== Sys2Proof/Machine/Step.lean ====
section
/-! DEFINITION. One step: the oldest issued transaction is decoded and executed (spec/20_memory.md R60, R61; log 1). -/

namespace Sys2Proof.Machine

/-- One step of the machine. With nothing issued the block does nothing (log 2); a descriptor that spells no
transaction is refused (spec/30_encoding.md R69). -/
def step (s : State) : Host.Outcome State Fault Refusal :=
  match fetch s with
  | none => .next (idle s)
  | some (t, rest) =>
    match decode t with
    | .ok i => exec i rest
    | .error why => .refused (.notATransaction why)

/-- `s` with the transaction that spec/opcode_table.json numbers `w`, every operand zero, issued ahead of every other:
the next step runs it (log 1, log 10). -/
def State.withFetchWord (s : State) (nbits w : Nat) : State := issueFirst (tableTx nbits w) s

end Sys2Proof.Machine
end

