-- ==== Sys2Proof/Safety.lean ====
section
/-! DEFINITION. The terms in which claims speak of good states and safe runs. -/

namespace Sys2Proof.Safety

open Sys2Proof.Machine

/-- The block accepts transactions: no violation has stopped it (spec/10_state.md R44). -/
abbrev Running (s : State) : Prop := s.faulted = none

/-- R47: the state's record is well-formed. -/
abbrev RecordWellFormed (s : State) : Prop := (snapshotOf s).WellFormed

/-- `k` steps from `s` end in a state that satisfies `P`, none of them refused. -/
def RunsTo (k : Nat) (s : State) (P : State → Prop) : Prop :=
  ∃ t, Host.Core.run Sys2Proof.core k s = .next t ∧ P t

/-- `k` steps from `s` run without a category (a) violation stopping the block. -/
def SafeRun (k : Nat) (s : State) : Prop := RunsTo k s Running

/-! ## Results as claims state them

What a transaction leaves, written from the rules and not from the operations of Machine/Ops.lean: a claim equates
`exec` with one of these. -/

/-- `s`, with `r` returned and exactly the events `es` emitted: no state changes. -/
def answered (s : State) (r : Response) (es : List Event) : State := { s with out := { response := r, events := es } }

/-- `s`, with nothing returned and nothing emitted. -/
def quiet (s : State) : State := answered s .none []

/-- R182: a violation with nothing emitted before it. Under `DIAGNOSTIC` the block is FAULTED with `c` and `s` otherwise
stands; in production the result is `fallback`. -/
def violated (c : Violation) (s fallback : State) : State :=
  if s.params.diagnostic then { quiet s with faulted := some c } else fallback

/-- R12, R182: a read that violates. In production it returns the free value `draw32()`, in the form `f`
(log 5). -/
def readViolated (c : Violation) (f : Word → Response) (s : State) : State :=
  violated c s { answered s (f (Config.draw32 s.draws)) [] with draws := s.draws + 1 }

/-- R95: `v` is the highest vector set in `b`. -/
def IsHighest (b : Bits256) (v : Vec) : Prop := getBit b v = true ∧ ∀ u : Vec, getBit b u = true → u ≤ v

/-- R127: the arbiter's choice, said of the sets and not of the scan. `v` is the highest request, every vector in service
is below it, and its class (bits 7:4) is above the TPR's. -/
def IsEligible (l : Lapic) (v : Vec) : Prop :=
  IsHighest l.irr v ∧ (∀ u : Vec, getBit l.isr u = true → u < v) ∧ l.tpr.toNat / 16 < v.toNat / 16

/-- R128: what `check_vector()` emits. -/
def notifies (l : Lapic) : List Event := if (eligible l).isSome then [.notify] else []

/-- R78: a vector that may be delivered. -/
abbrev Deliverable (v : Vec) : Prop := 0x10 ≤ v.toNat ∧ v.toNat ≤ 0xFE

/-- R79: the modes both paths deliver, fixed and lowest-priority. -/
abbrev DeliveringMode (m : BitVec 3) : Prop := m = 0#3 ∨ m = 1#3

/-- R125: what `deliver` leaves, as the whole of a transaction. -/
def delivered (a : RouteArgs) (s : State) : State :=
  if a.mode = 4#3 ∨ a.mode = 5#3 then quiet s
  else if ¬ DeliveringMode a.mode then violated .a4BadDeliveryMode s (quiet s)
  else if ¬ Deliverable a.vector then violated .a3BadVector s (quiet s)
  else if getBit s.lapic.irr a.vector = true then answered s .none [.log .b3Coalesced]
  else
    let l : Lapic :=
      { s.lapic with
        irr := setBit s.lapic.irr a.vector
        tmr := if a.isLevel then setBit s.lapic.tmr a.vector else clearBit s.lapic.tmr a.vector }
    answered { s with lapic := l } .none (notifies l)

/-- R160: line `k` is attempted by `check_irq(k)`: pending, unmasked, and not a level entry already in service. -/
abbrev Attempted (io : IoApic) (k : Line) : Prop :=
  io.irr.getLsbD k = true ∧ (configOf io k).getLsbD 16 = false ∧
    ¬ ((configOf io k).getLsbD 15 = true ∧ (configOf io k).getLsbD 14 = true)

/-- R160: delivery status is cleared after the attempt, unless a violation has ended the transaction. -/
def statusCleared (k : Line) (s : State) : State :=
  if s.faulted.isSome then s else setConfig k (configOf s.ioapic k &&& 0xFFFFEFFF#32) s

/-- R160: what `check_irq(k)` leaves, as the rest of a transaction that has emitted nothing yet. -/
def lineChecked (k : Line) (s : State) : State :=
  if ¬ Attempted s.ioapic k then quiet s
  else
    let cfg := configOf s.ioapic k
    let s₁ := if cfg.getLsbD 15 = true then setConfig k (cfg ||| 0x00004000#32) s
      else setIoIrr (clearLine s.ioapic.irr k) s
    if DeliveringMode (cfg.extractLsb' 8 3) then
      statusCleared k (delivered
        { vector := cfg.extractLsb' 0 8, mode := cfg.extractLsb' 8 3, isLevel := cfg.getLsbD 15
          destination := (destOf s.ioapic k).extractLsb' 24 8, destMode := cfg.getLsbD 11 } s₁)
    else statusCleared k (violated .a4BadDeliveryMode s₁ (quiet s₁))

/-! ## Encodings as claims state them -/

/-- Every transaction with the descriptor `d` decodes to `f` of its operands. -/
def Spells (d : Word) (f : Tx → Instr) : Prop := ∀ t : Tx, t.desc = d → decode t = .ok (f t)

/-- A descriptor `d` with the offset or line `off` in bits 27:8 (R68). -/
def atOffset (d : Word) (off : Offset) : Word := d ||| (off.zeroExtend 32 <<< 8)

/-- The data operand of a 32-bit write (R70). -/
def data32Of (t : Tx) : Word := t.data.extractLsb' 0 32

/-- R72: the offsets that name a LAPIC register. ISR, TMR and IRR words lie one after another from 0x100 to 0x270. -/
def ListedOffset (n : Nat) : Prop :=
  n ∈ [0x020, 0x030, 0x080, 0x0B0, 0x0D0, 0x0E0, 0x0F0, 0x280, 0x300, 0x310, 0x320, 0x340, 0x350, 0x360, 0x370, 0x380,
    0x390, 0x3E0] ∨ (n % 0x10 = 0 ∧ 0x100 ≤ n ∧ n ≤ 0x270)

end Sys2Proof.Safety
end

