-- ==== Sys2Proof/Certificates/Slice0/Obligations.lean ====
section
/-! DEFINITION. The statements for the provers. Their terms are those of Sys2Proof/Safety.lean, which are written from
the rules and not from the operations the meanings call; each docstring names the rules a statement rests on. -/

open Sys2Proof Sys2Proof.Machine Sys2Proof.Safety

/-! ## Decoding and the step -/

/-- R68, R69, R70, R72 to R76: decoding the transaction that spells an instruction gives the instruction back, every
operand at every value; a row of an IOWIN register gives the IOWIN access it is a case of (log 9). -/
def Obligations.EncodedInstructionDecodesBack : Prop :=
  ∀ i : Instr, i.wellFormed = true → decode (encode i) = .ok (carrier i)

/-- R68, R69: what decodes is well-formed, and its descriptor is the one that was presented: no bit of a descriptor is
ignored. -/
def Obligations.DecodedDescriptorIsThePresentedOne : Prop :=
  ∀ (t : Tx) (i : Instr), decode t = .ok i → i.wellFormed = true ∧ (encode i).desc = t.desc

/-- R69: the descriptors that spell no transaction, and no others; a step refuses them. -/
def Obligations.OnlyIllFormedDescriptorsAreRefused : Prop :=
  ∀ t : Tx,
    ((∃ why, decode t = .error why) ↔
      t.desc.extractLsb' 28 4 ≠ 0#4 ∨ 11 ≤ (t.desc.extractLsb' 0 4).toNat ∨
      ((t.desc.extractLsb' 0 4).toNat ≤ 1 ∧ 2 ≤ (t.desc.extractLsb' 4 2).toNat) ∨
      (2 ≤ (t.desc.extractLsb' 0 4).toNat ∧ t.desc.extractLsb' 4 4 ≠ 0#4) ∨
      (4 ≤ (t.desc.extractLsb' 0 4).toNat ∧ t.desc.extractLsb' 8 20 ≠ 0#20)) ∧
    ∀ (s : State) (rest : List Tx) (why : Reject), s.pending = t :: rest → decode t = .error why →
      step s = .refused (.notATransaction why)

/-- R68 and the rules named in spec/opcode_table.json: descriptors written out bit by bit decode to what they stand
for. -/
def Obligations.SampleDescriptorsDecode : Prop :=
  decodeTableWord 32 0b00000000000000001000000010000000 = some .r32LapicTpr ∧
  decodeTableWord 32 0b00000000000000001011000010000001 = some (.w32LapicEoi 0#32) ∧
  decodeTableWord 32 0b00000000000000100001000010000000 = some (.r32LapicIrr 1#3) ∧
  decodeTableWord 32 0b00000000000000111000000010000001 = some (.w32LapicTimerInitial 0#32 0) ∧
  decodeTableWord 32 0b00000000000000001000000100000000 = some (.r8Lapic 0x081#20) ∧
  decodeTableWord 32 0b00000000000000000000000010010001 = some (.w32Ioregsel 0#32) ∧
  decodeTableWord 32 0b00000000000000000001000010010000 = some .r32Iowin ∧
  decodeTableWord 32 0b00000000000000000000010100000010 = some (.raiseLine 5#20) ∧
  decodeTableWord 32 0b00000000000000000000000000000100 = some .ack ∧
  decodeTableWord 32 0b00000000000000000000000000000101 = some (.tick 0) ∧
  decodeTableWord 32 0b00000000000000000000000000001011 = none

/-- R75, R76, R77: the row that an IOWIN access is, by the index in IOREGSEL. Log 9: a row means in every state what the
IOWIN access means there, so that running what the decoder gives runs the row. -/
def Obligations.IowinIndexSelectsTheRow : Prop :=
  (∀ (i : Instr) (s : State),
    exec (carrier i) s = exec i s ∧ exec (refineIowin s.ioapic.ioregsel i) s = exec i s) ∧
  ∀ (sel : BitVec 8) (d : Word),
    (sel.toNat = 0x00 → refineIowin sel .r32Iowin = .r32IowinId ∧ refineIowin sel (.w32Iowin d) = .w32IowinId d) ∧
    (sel.toNat = 0x01 →
      refineIowin sel .r32Iowin = .r32IowinVersion ∧ refineIowin sel (.w32Iowin d) = .w32IowinReadOnly d) ∧
    (sel.toNat = 0x02 →
      refineIowin sel .r32Iowin = .r32IowinArbitration ∧ refineIowin sel (.w32Iowin d) = .w32IowinReadOnly d) ∧
    (∀ k : Line, sel.toNat = 0x10 + 2 * k.val →
      refineIowin sel .r32Iowin = .r32IowinRedirection ∧ refineIowin sel (.w32Iowin d) = .w32IowinConfig d) ∧
    (∀ k : Line, sel.toNat = 0x11 + 2 * k.val →
      refineIowin sel .r32Iowin = .r32IowinRedirection ∧ refineIowin sel (.w32Iowin d) = .w32IowinDestination d) ∧
    (((0x03 ≤ sel.toNat ∧ sel.toNat ≤ 0x0F) ∨ 0x40 ≤ sel.toNat) →
      refineIowin sel .r32Iowin = .iowinUnknown none ∧ refineIowin sel (.w32Iowin d) = .iowinUnknown (some d))

/-- R60, R61 (log 1, log 2): a step runs the oldest issued transaction, and nothing happens where none is issued. -/
def Obligations.StepRunsTheDecodedInstruction : Prop :=
  (∀ (s : State) (t : Tx) (rest : List Tx) (i : Instr), s.pending = t :: rest → decode t = .ok i →
    step s = exec i { s with pending := rest }) ∧
  (∀ s : State, s.pending = [] → step s = .next (quiet s))

/-- Log 1, log 10: a word of the opcode table that is issued first is what the next step runs. -/
def Obligations.IssuedWordRunsNext : Prop :=
  (∀ (s : State) (nbits w : Nat) (i : Instr), decodeTableWord nbits w = some i →
    step (s.withFetchWord nbits w) = exec i s) ∧
  (∀ (s : State) (i : Instr), i.wellFormed = true → step { s with pending := encode i :: s.pending } = exec i s)

/-! ## The FAULTED state -/

/-- R44, R182: `FAULTED` is set under `DIAGNOSTIC` only; a FAULTED block refuses every transaction but RESET and
RESTORE, which clear it; after reset it is `none`. -/
def Obligations.FaultedBlockAcceptsOnlyResetAndRestore : Prop :=
  (∀ (i : Instr) (s t : State), exec i s = .next t → t.faulted ≠ none → s.params.diagnostic = true) ∧
  (∀ (i : Instr) (s : State), s.faulted ≠ none → (∀ n, i ≠ .reset n) → (∀ r, i ≠ .restore r) →
    exec i s = .refused .blockFaulted) ∧
  (∀ (n : Nat) (s : State), ∃ t, exec (.reset n) s = .next t ∧ t.faulted = none) ∧
  (∀ (r : Record) (s : State), r.WellFormed → ∃ t, exec (.restore r) s = .next t ∧ t.faulted = none) ∧
  State.reset.faulted = none

/-- R60, R67, R182: on a block that is not FAULTED every transaction completes, a RESTORE of an ill-formed record apart;
and where `DIAGNOSTIC` is false the block never faults. -/
def Obligations.RunningBlockCompletesEveryTransaction : Prop :=
  ∀ (i : Instr) (s : State), Running s → (∀ r, i = .restore r → r.WellFormed) →
    ∃ t, exec i s = .next t ∧ (s.params.diagnostic = false → Running t)

/-- R9, R182, log 1, log 4: no transaction changes the parameters or the queue of what is issued. -/
def Obligations.ParametersAndQueueStand : Prop :=
  ∀ (i : Instr) (s t : State), exec i s = .next t → t.params = s.params ∧ t.pending = s.pending

/-! ## LAPIC registers -/

/-- R99, R101, R102, R104, R106, R108, R113, R115, R116: each read returns its register and changes nothing. -/
def Obligations.LapicReadsReturnTheirRegisters : Prop :=
  ∀ s : State, Running s →
    ∀ row ∈ [(0x00002080#32, Instr.r32LapicId, s.lapic.id),
        (0x00003080#32, Instr.r32LapicVersion, s.params.lapicVersion),
        (0x00008080#32, Instr.r32LapicTpr, s.lapic.tpr.zeroExtend 32),
        (0x0000D080#32, Instr.r32LapicLdr, s.lapic.ldr),
        (0x0000E080#32, Instr.r32LapicDfr, s.lapic.dfr),
        (0x0000F080#32, Instr.r32LapicSvr, s.lapic.svr),
        (0x00028080#32, Instr.r32LapicError, s.lapic.readError),
        (0x00030080#32, Instr.r32LapicIcrLow, s.lapic.icr0),
        (0x00031080#32, Instr.r32LapicIcrHigh, s.lapic.icr1)],
      Spells row.1 (fun _ => row.2.1) ∧ exec row.2.1 s = .next (answered s (.data32 row.2.2) [])

/-- R118, R140, R142, R143: the reads of the five LVT entries and of the timer's registers. -/
def Obligations.LvtAndTimerReadsReturnTheirRegisters : Prop :=
  ∀ s : State, Running s →
    ∀ row ∈ [(0x00032080#32, Instr.r32LapicLvtTimer, s.lapic.lvtTimer),
        (0x00034080#32, Instr.r32LapicLvtPerf, s.lapic.lvtPerf),
        (0x00035080#32, Instr.r32LapicLvtInt0, s.lapic.lvtInt0),
        (0x00036080#32, Instr.r32LapicLvtInt1, s.lapic.lvtInt1),
        (0x00037080#32, Instr.r32LapicLvtError, s.lapic.lvtError),
        (0x00038080#32, Instr.r32LapicTimerInitial, s.lapic.timerInitial),
        (0x00039080#32, Instr.r32LapicTimerCurrent, BitVec.ofNat 32 s.lapic.timerCurrent),
        (0x0003E080#32, Instr.r32LapicTimerDivide, s.lapic.timerDiv)],
      Spells row.1 (fun _ => row.2.1) ∧ exec row.2.1 s = .next (answered s (.data32 row.2.2) [])

/-- R73, R110, R111, R112: bit b of word j of ISR, TMR or IRR reads as the bit of vector 32 * j + b. -/
def Obligations.WordReadsReturnThirtyTwoVectors : Prop :=
  ∀ s : State, Running s → ∀ j : BitVec 3,
    ∀ row ∈ [(0x00010080#32, Instr.r32LapicIsr j, s.lapic.isr), (0x00018080#32, Instr.r32LapicTmr j, s.lapic.tmr),
        (0x00020080#32, Instr.r32LapicIrr j, s.lapic.irr)],
      Spells (row.1 ||| (j.zeroExtend 32 <<< 12)) (fun _ => row.2.1) ∧
      ∃ w : Word, exec row.2.1 s = .next (answered s (.data32 w) []) ∧
        ∀ b : Fin 32, w.getLsbD b = getBit row.2.2 (BitVec.ofNat 8 (32 * j.toNat + b.val))

/-- R120, R121: EOI is write-only; a write to a read-only register changes no register. -/
def Obligations.WrongDirectionAccessesAreBadOffset : Prop :=
  ∀ s : State, Running s → ∀ (j : BitVec 3) (d : Word),
    Spells 0x0000B080#32 (fun _ => .r32LapicEoi) ∧
    exec .r32LapicEoi s = .next (readViolated .a1BadOffset .data32 s) ∧
    Spells 0x00003081#32 (fun t => .w32LapicVersion (data32Of t)) ∧
    Spells (0x00010081#32 ||| (j.zeroExtend 32 <<< 12)) (fun t => .w32LapicIsr j (data32Of t)) ∧
    Spells (0x00018081#32 ||| (j.zeroExtend 32 <<< 12)) (fun t => .w32LapicTmr j (data32Of t)) ∧
    Spells (0x00020081#32 ||| (j.zeroExtend 32 <<< 12)) (fun t => .w32LapicIrr j (data32Of t)) ∧
    Spells 0x00039081#32 (fun t => .w32LapicTimerCurrent (data32Of t)) ∧
    ∀ i ∈ [Instr.w32LapicVersion d, .w32LapicIsr j d, .w32LapicTmr j d, .w32LapicIrr j d, .w32LapicTimerCurrent d],
      exec i s = .next (violated .a1BadOffset s (quiet s))

/-- R54, R122: a 32-bit access at an offset that R72 does not list, a misaligned one among them, is A1. -/
def Obligations.UnlistedLapicOffsetsAreBadOffset : Prop :=
  ∀ s : State, Running s → ∀ (off : Offset) (d : Word), ¬ ListedOffset off.toNat →
    Spells (atOffset 0x00000080#32 off) (fun _ => .r32LapicUnlisted off) ∧
    Spells (atOffset 0x00000081#32 off) (fun t => .w32LapicUnlisted off (data32Of t)) ∧
    exec (.r32LapicUnlisted off) s = .next (readViolated .a1BadOffset .data32 s) ∧
    exec (.w32LapicUnlisted off d) s = .next (violated .a1BadOffset s (quiet s))

/-- R100, R105, R107, R109, R117, R119: the writes that only store. R114: a write of any data to ERROR moves the current
errors into the latch. -/
def Obligations.LapicWritesStoreTheirData : Prop :=
  ∀ s : State, Running s → ∀ d : Word,
    Spells 0x00028081#32 (fun t => .w32LapicError (data32Of t)) ∧
    exec (.w32LapicError d) s =
      .next (quiet { s with lapic := { s.lapic with readError := s.lapic.error, error := 0#32 } }) ∧
    ∀ row ∈ [(0x00002081#32, Instr.w32LapicId, { s.lapic with id := d }),
        (0x0000D081#32, Instr.w32LapicLdr, { s.lapic with ldr := d &&& 0xFF000000#32 }),
        (0x0000E081#32, Instr.w32LapicDfr, { s.lapic with dfr := d ||| 0x0FFFFFFF#32 }),
        (0x0000F081#32, Instr.w32LapicSvr, { s.lapic with svr := d }),
        (0x00031081#32, Instr.w32LapicIcrHigh, { s.lapic with icr1 := d }),
        (0x00032081#32, Instr.w32LapicLvtTimer, { s.lapic with lvtTimer := d }),
        (0x00034081#32, Instr.w32LapicLvtPerf, { s.lapic with lvtPerf := d }),
        (0x00035081#32, Instr.w32LapicLvtInt0, { s.lapic with lvtInt0 := d }),
        (0x00036081#32, Instr.w32LapicLvtInt1, { s.lapic with lvtInt1 := d }),
        (0x00037081#32, Instr.w32LapicLvtError, { s.lapic with lvtError := d })],
      Spells row.1 (fun t => row.2.1 (data32Of t)) ∧
      exec (row.2.1 d) s = .next (quiet { s with lapic := row.2.2 })

/-- R103, R128: a TPR write stores the low byte and notifies the CPU if a vector is then eligible. -/
def Obligations.TprWriteRechecksEligibility : Prop :=
  ∀ s : State, Running s → ∀ d : Word,
    Spells 0x00008081#32 (fun t => .w32LapicTpr (data32Of t)) ∧
    exec (.w32LapicTpr d) s =
      .next (answered { s with lapic := { s.lapic with tpr := d.extractLsb' 0 8 } } .none
        (notifies { s.lapic with tpr := d.extractLsb' 0 8 }))

/-- R21 to R36: which transactions may change a LAPIC register, RESET and RESTORE apart. R137: TMR changes at a vector
only where a delivery of it is accepted. -/
def Obligations.LapicRegistersChangeOnlyByTheirWrites : Prop :=
  ∀ (i : Instr) (s t : State), exec i s = .next t → (∀ n, i ≠ .reset n) → (∀ r, i ≠ .restore r) →
    (t.lapic.id = s.lapic.id ∨ ∃ d, i = .w32LapicId d) ∧
    (t.lapic.tpr = s.lapic.tpr ∨ ∃ d, i = .w32LapicTpr d) ∧
    (t.lapic.ldr = s.lapic.ldr ∨ ∃ d, i = .w32LapicLdr d) ∧
    (t.lapic.dfr = s.lapic.dfr ∨ ∃ d, i = .w32LapicDfr d) ∧
    (t.lapic.svr = s.lapic.svr ∨ ∃ d, i = .w32LapicSvr d) ∧
    ((t.lapic.error = s.lapic.error ∧ t.lapic.readError = s.lapic.readError) ∨ ∃ d, i = .w32LapicError d) ∧
    (t.lapic.icr0 = s.lapic.icr0 ∨ ∃ d, i = .w32LapicIcrLow d) ∧
    (t.lapic.icr1 = s.lapic.icr1 ∨ ∃ d, i = .w32LapicIcrHigh d) ∧
    (t.lapic.lvtTimer = s.lapic.lvtTimer ∨ ∃ d, i = .w32LapicLvtTimer d) ∧
    (t.lapic.lvtPerf = s.lapic.lvtPerf ∨ ∃ d, i = .w32LapicLvtPerf d) ∧
    (t.lapic.lvtInt0 = s.lapic.lvtInt0 ∨ ∃ d, i = .w32LapicLvtInt0 d) ∧
    (t.lapic.lvtInt1 = s.lapic.lvtInt1 ∨ ∃ d, i = .w32LapicLvtInt1 d) ∧
    (t.lapic.lvtError = s.lapic.lvtError ∨ ∃ d, i = .w32LapicLvtError d) ∧
    ((t.lapic.timerDiv = s.lapic.timerDiv ∧ t.lapic.timerShift = s.lapic.timerShift) ∨
      ∃ d, i = .w32LapicTimerDivide d) ∧
    (t.lapic.timerInitial = s.lapic.timerInitial ∨ ∃ d n, i = .w32LapicTimerInitial d n) ∧
    ((t.lapic.timerCurrent = s.lapic.timerCurrent ∧ t.lapic.nextTick = s.lapic.nextTick) ∨
      (∃ d n, i = .w32LapicTimerInitial d n) ∨ ∃ n, i = .tick n) ∧
    let Delivers : Prop :=
      (∃ k, i = .raiseLine k) ∨ (∃ d, carrier i = .w32Iowin d) ∨ (∃ d, i = .w32LapicEoi d) ∨ (∃ v, i = .remoteEoi v) ∨
        (∃ n, i = .tick n) ∨ (∃ d, i = .w32LapicIcrLow d) ∨ (∃ a, i = .route a)
    (t.lapic.irr = s.lapic.irr ∨ i = .ack ∨ Delivers) ∧
    (t.lapic.isr = s.lapic.isr ∨ i = .ack ∨ ∃ d, i = .w32LapicEoi d) ∧
    (∀ v : Vec, getBit t.lapic.tmr v = getBit s.lapic.tmr v ∨
      (Delivers ∧ Deliverable v ∧ getBit s.lapic.irr v = false ∧ getBit t.lapic.irr v = true))

/-! ## Other widths -/

/-- R53, R55 (R53's byte order is the spec's own reading, log 19): an 8-bit LAPIC read logs B4 and returns the byte
lane of the 32-bit read of the aligned offset, or meets that read's violation. -/
def Obligations.ByteReadReturnsTheLane : Prop :=
  ∀ s : State, Running s → ∀ off : Offset,
    (∀ r w, lapicRegAt (off &&& 0xFFFFC#20) = some r → lapicValue s r = some w →
      exec (lapicReadOf r) s = .next (answered s (.data32 w) []) ∧
      exec (.r8Lapic off) s =
        .next (answered s (.data8 ((w >>> (8 * (off.toNat % 4))).setWidth 8)) [.log .b4ByteAccess])) ∧
    ((∀ r, lapicRegAt (off &&& 0xFFFFC#20) = some r → lapicValue s r = none) →
      exec (.r8Lapic off) s = .next (
        if s.params.diagnostic then
          { answered s .none [.log .b4ByteAccess] with faulted := some .a1BadOffset }
        else
          { answered s (.data8 ((Config.draw32 s.draws >>> (8 * (off.toNat % 4))).setWidth 8)) [.log .b4ByteAccess] with
            draws := s.draws + 1 }))

/-- R56, R57, R58: an 8-bit LAPIC write and every width but 8 and 32 is A2 at every offset, and so is every IOAPIC
access that is not 32 bits wide; a violating read returns the free draw, cut to the width. The upper half of a 64-bit
one is a second free value: the model's choice, since the rules give 32 bits (log 6). -/
def Obligations.OtherWidthsAreBadWidth : Prop :=
  ∀ s : State, Running s → ∀ off : Offset,
    (∀ i ∈ [Instr.r16Lapic off, .r16Ioapic off],
      exec i s = .next (readViolated .a2BadWidth (fun w => .data16 (w.setWidth 16)) s)) ∧
    (∀ i ∈ [Instr.r64Lapic off, .r64Ioapic off],
      exec i s = .next (readViolated .a2BadWidth (fun w => .data64 (Config.drawHigh32 s.draws ++ w)) s)) ∧
    exec (.r8Ioapic off) s = .next (readViolated .a2BadWidth (fun w => .data8 (w.setWidth 8)) s) ∧
    (∀ (d8 : BitVec 8) (d16 : BitVec 16) (d64 : BitVec 64),
      ∀ i ∈ [Instr.w8Lapic off d8, .w16Lapic off d16, .w64Lapic off d64, .w8Ioapic off d8, .w16Ioapic off d16, .w64Ioapic off d64],
        exec i s = .next (violated .a2BadWidth s (quiet s))) ∧
    Spells (atOffset 0x00000001#32 off) (fun t => .w8Lapic off (t.data.extractLsb' 0 8)) ∧
    Spells (atOffset 0x00000040#32 off) (fun _ => .r16Lapic off) ∧
    Spells (atOffset 0x000000C0#32 off) (fun _ => .r64Lapic off) ∧
    Spells (atOffset 0x00000010#32 off) (fun _ => .r8Ioapic off) ∧
    Spells (atOffset 0x00000050#32 off) (fun _ => .r16Ioapic off) ∧
    Spells (atOffset 0x000000D0#32 off) (fun _ => .r64Ioapic off)

/-- R58, R74: a 32-bit IOAPIC access at any offset but 0x00 and 0x10 is A7. -/
def Obligations.UnlistedIoapicOffsetsAreBadOffset : Prop :=
  ∀ s : State, Running s → ∀ (off : Offset) (d : Word), off.toNat ≠ 0x00 → off.toNat ≠ 0x10 →
    Spells (atOffset 0x00000090#32 off) (fun _ => .r32IoapicUnlisted off) ∧
    Spells (atOffset 0x00000091#32 off) (fun t => .w32IoapicUnlisted off (data32Of t)) ∧
    exec (.r32IoapicUnlisted off) s = .next (readViolated .a7BadIoapicOffset .data32 s) ∧
    exec (.w32IoapicUnlisted off d) s = .next (violated .a7BadIoapicOffset s (quiet s))

/-- R59: a READ changes no register of either unit. -/
def Obligations.ReadsChangeNoRegister : Prop :=
  ∀ (s u : State) (t : Tx) (i : Instr), decode t = .ok i → t.desc.extractLsb' 0 4 = 0#4 → exec i s = .next u →
    u.lapic = s.lapic ∧ u.ioapic = s.ioapic

/-! ## The timer -/

/-- R141: the arming write. R85, R139: a divider write stores bits 3, 1 and 0 and sets the shift of R85's table
(whose layout the spec takes from general knowledge, log 19). -/
def Obligations.TimerWritesArmAndDivide : Prop :=
  ∀ s : State, Running s → ∀ (d : Word) (now : Nat),
    Spells 0x00038081#32 (fun t => .w32LapicTimerInitial (data32Of t) t.now) ∧
    exec (.w32LapicTimerInitial d now) s =
      .next (quiet { s with lapic := { s.lapic with timerInitial := d, timerCurrent := d.toNat, nextTick := now } }) ∧
    Spells 0x0003E081#32 (fun t => .w32LapicTimerDivide (data32Of t)) ∧
    ∀ row ∈ [(0x0#32, 1), (0x1#32, 2), (0x2#32, 3), (0x3#32, 4), (0x8#32, 5), (0x9#32, 6), (0xA#32, 7), (0xB#32, 0)],
      d &&& 0x0000000B#32 = row.1 →
      exec (.w32LapicTimerDivide d) s =
        .next (quiet { s with lapic := { s.lapic with timerDiv := row.1, timerShift := row.2 } })

/-- R144, R145: everything TICK does. -/
def Obligations.TickAdvancesTheTimer : Prop :=
  ∀ s : State, Running s → ∀ now : Nat,
    let l := s.lapic
    let steps := (now - l.nextTick) / 2 ^ l.timerShift
    let c : Int := l.timerCurrent - steps
    let advanced (n : Nat) : State :=
      { s with lapic := { l with nextTick := l.nextTick + steps * 2 ^ l.timerShift, timerCurrent := n } }
    let expired (n : Nat) : State :=
      if l.lvtTimer.getLsbD 16 = true then quiet (advanced n)
      else delivered
        { vector := l.lvtTimer.extractLsb' 0 8, mode := 0#3, isLevel := false, destination := 0#8, destMode := false }
        (advanced n)
    Spells 0x00000005#32 (fun t => .tick t.now) ∧
    exec (.tick now) s = .next (
      if l.timerCurrent = 0 ∨ now ≤ l.nextTick ∨ steps = 0 then quiet s
      else if 0 < c then quiet (advanced c.toNat)
      else if l.lvtTimer.extractLsb' 17 2 = 1#2 then
        expired (if l.timerInitial = 0#32 then 0 else ((l.timerInitial.toNat : Int) - -c % l.timerInitial.toNat).toNat)
      else if l.lvtTimer.extractLsb' 17 2 = 0#2 then expired 0
      else violated .a8BadTimerMode (advanced l.timerCurrent) (quiet (advanced 0)))

/-- R146: in periodic mode no sequence of TICKs takes the count out of 1 to the initial count. -/
def Obligations.TicksKeepThePeriodicCountInRange : Prop :=
  ∀ (s t : State) (nows : List Nat),
    s.lapic.lvtTimer.extractLsb' 17 2 = 1#2 → 1 ≤ s.lapic.timerCurrent →
    s.lapic.timerCurrent ≤ s.lapic.timerInitial.toNat →
    s.pending = nows.map (fun now => encode (.tick now)) →
    Host.Core.run Sys2Proof.core nows.length s = .next t →
    1 ≤ t.lapic.timerCurrent ∧ t.lapic.timerCurrent ≤ t.lapic.timerInitial.toNat ∧
      t.lapic.timerInitial = s.lapic.timerInitial ∧ t.lapic.timerShift = s.lapic.timerShift

/-- R144: the remainder of an interval is carried, so that a TICK in between changes nothing of where a later TICK
leaves the count. -/
def Obligations.TickSpacingDoesNotMatter : Prop :=
  ∀ (s t : State) (a b : Nat), a ≤ b → (b - s.lapic.nextTick) / 2 ^ s.lapic.timerShift < s.lapic.timerCurrent →
    exec (.tick a) s = .next t → exec (.tick b) t = exec (.tick b) s

/-! ## Delivery, acknowledge and EOI -/

/-- R91 to R95, R97: get, set, clear, highest and word of a 256-bit register. R42, R43: setting and clearing a line's
bit changes that bit only. -/
def Obligations.BitRegisterOperations : Prop :=
  (∀ (b : BitVec 24) (k j : Line),
    (setLine b k).getLsbD j = (if j = k then true else b.getLsbD j) ∧
    (clearLine b k).getLsbD j = (if j = k then false else b.getLsbD j)) ∧
  ∀ (b : Bits256) (v : Vec),
    getBit b v = (wordOf b (v.extractLsb' 5 3)).getLsbD (v.toNat % 32) ∧
    (∀ u : Vec, getBit (setBit b v) u = if u = v then true else getBit b u) ∧
    (∀ u : Vec, getBit (clearBit b v) u = if u = v then false else getBit b u) ∧
    (highest b = some v ↔ IsHighest b v) ∧
    (highest b = none ↔ b = 0#256)

/-- R127, R130: the arbiter's choice and INTR, said of the sets. -/
def Obligations.ArbiterChoosesTheEligibleVector : Prop :=
  ∀ s : State, (∀ v : Vec, eligible s.lapic = some v ↔ IsEligible s.lapic v) ∧
    (intr s = true ↔ ∃ v, IsEligible s.lapic v)

/-- R125, R126: ROUTE delivers by vector, mode and trigger mode, in the order of R125's checks; the destination and its
mode are not examined. -/
def Obligations.RouteDeliversWithoutMatchingTheDestination : Prop :=
  ∀ s : State, Running s → ∀ a : RouteArgs,
    Spells 0x00000009#32 (fun t => .route t.args) ∧ exec (.route a) s = .next (delivered a s)

/-- R135: after an accepted delivery every further one of that vector, level or edge, is dropped with a LOG event. -/
def Obligations.RepeatedDeliveryCoalesces : Prop :=
  ∀ (s t : State) (a b : RouteArgs), Running s → DeliveringMode a.mode → DeliveringMode b.mode → Deliverable a.vector →
    b.vector = a.vector → exec (.route a) s = .next t →
    getBit t.lapic.irr a.vector = true ∧ exec (.route b) t = .next (answered t .none [.log .b3Coalesced])

/-- R80, R81, R88 (layouts the spec takes from general knowledge, log 19), R132, R133: the ICR-low write stores its
data without bit 12 and dispatches by the shorthand. -/
def Obligations.IcrLowWriteDispatchesTheIpi : Prop :=
  ∀ s : State, Running s → ∀ d : Word,
    let stored : State := { s with lapic := { s.lapic with icr0 := d &&& 0xFFFFEFFF#32 } }
    Spells 0x00030081#32 (fun t => .w32LapicIcrLow (data32Of t)) ∧
    exec (.w32LapicIcrLow d) s = .next (
      if d.extractLsb' 18 2 = 3#2 then quiet stored
      else delivered
        { vector := d.extractLsb' 0 8, mode := d.extractLsb' 8 3, isLevel := d.getLsbD 15
          destination := s.lapic.icr1.extractLsb' 24 8, destMode := d.getLsbD 11 } stored)

/-- R129, R190: ACK moves the eligible vector from IRR to ISR and returns it; with none eligible it logs B1 and returns
none. -/
def Obligations.AckMovesTheEligibleVector : Prop :=
  ∀ s : State, Running s →
    Spells 0x00000004#32 (fun _ => .ack) ∧
    (∀ v : Vec, IsEligible s.lapic v →
      exec .ack s = .next (answered
        { s with lapic := { s.lapic with irr := clearBit s.lapic.irr v, isr := setBit s.lapic.isr v } }
        (.vector (some v)) [])) ∧
    ((∀ v : Vec, ¬ IsEligible s.lapic v) →
      exec .ack s = .next (answered s (.vector none) [.log .b1SpuriousAck]))

/-- R134: a vector in service at or above every request suppresses delivery. -/
def Obligations.ServiceIsNotPreemptedByLowerRequests : Prop :=
  ∀ (s : State) (u : Vec), Running s → getBit s.lapic.isr u = true → (∀ v : Vec, getBit s.lapic.irr v = true → v ≤ u) →
    intr s = false ∧ exec .ack s = .next (answered s (.vector none) [.log .b1SpuriousAck])

/-- R131, R192: the EOI write. With ISR empty it logs B2; else it retires the highest vector in service, runs
REMOTE_EOI of it if TMR says level, and checks the arbiter, unless a violation has ended it. -/
def Obligations.EoiRetiresTheHighestVector : Prop :=
  ∀ s : State, Running s → ∀ d : Word,
    Spells 0x0000B081#32 (fun t => .w32LapicEoi (data32Of t)) ∧
    (s.lapic.isr = 0#256 → exec (.w32LapicEoi d) s = .next (answered s .none [.log .b2EoiEmpty])) ∧
    ∀ v : Vec, IsHighest s.lapic.isr v →
      let retired : State := { s with lapic := { s.lapic with isr := clearBit s.lapic.isr v } }
      (getBit s.lapic.tmr v = false →
        exec (.w32LapicEoi d) s = .next (answered retired .none (notifies retired.lapic))) ∧
      (getBit s.lapic.tmr v = true →
        ∃ t, exec (.remoteEoi v) retired = .next t ∧
          exec (.w32LapicEoi d) s = .next (
            if t.faulted.isSome then t
            else { t with out := { t.out with events := t.out.events ++ notifies t.lapic } }))

/-- R136: the EOI after an acknowledge retires the acknowledged vector and leaves ISR as it was before. -/
def Obligations.EoiUndoesTheLastAcknowledge : Prop :=
  ∀ (s t u : State) (v : Vec) (d : Word), exec .ack s = .next t → t.out.response = .vector (some v) →
    exec (.w32LapicEoi d) t = .next u → u.lapic.isr = s.lapic.isr

/-- R187: only ACK clears a request, and only the eligible one, RESET and RESTORE apart. -/
def Obligations.OnlyAckClearsARequest : Prop :=
  ∀ (i : Instr) (s t : State) (v : Vec), exec i s = .next t → (∀ n, i ≠ .reset n) → (∀ r, i ≠ .restore r) →
    getBit s.lapic.irr v = true → getBit t.lapic.irr v = false → i = .ack ∧ IsEligible s.lapic v

/-- R78, R186: a vector that enters IRR may be delivered, and comes from a line, an EOI, the timer or an IPI. -/
def Obligations.OnlyDeliverableVectorsEnterIrr : Prop :=
  ∀ (i : Instr) (s t : State) (v : Vec), exec i s = .next t → (∀ r, i ≠ .restore r) →
    getBit s.lapic.irr v = false → getBit t.lapic.irr v = true →
    Deliverable v ∧
      ((∃ k, i = .raiseLine k) ∨ (∃ d, carrier i = .w32Iowin d) ∨ (∃ d, i = .w32LapicEoi d) ∨ (∃ u, i = .remoteEoi u) ∨
        (∃ n, i = .tick n) ∨ (∃ d, i = .w32LapicIcrLow d) ∨ (∃ a, i = .route a))

/-- R27: ISR gains a vector by its acknowledge and loses one by an EOI that retires it, RESET and RESTORE apart. -/
def Obligations.ServiceBeginsAtAckAndEndsAtEoi : Prop :=
  ∀ (i : Instr) (s t : State) (v : Vec), exec i s = .next t → (∀ n, i ≠ .reset n) → (∀ r, i ≠ .restore r) →
    (getBit s.lapic.isr v = false → getBit t.lapic.isr v = true → i = .ack ∧ IsEligible s.lapic v) ∧
    (getBit s.lapic.isr v = true → getBit t.lapic.isr v = false →
      (∃ d, i = .w32LapicEoi d) ∧ IsHighest s.lapic.isr v)

/-- R130: a transaction that raises INTR emits NOTIFY, unless a violation ended it. RESTORE emits none (R176). -/
def Obligations.RisingIntrNotifies : Prop :=
  ∀ (i : Instr) (s t : State), exec i s = .next t → (∀ r, i ≠ .restore r) → Running t →
    intr s = false → intr t = true → Event.notify ∈ t.out.events

/-! ## The IOAPIC -/

/-- R148, R149: IOREGSEL reads zero-extended and stores the low byte, whatever index it is. -/
def Obligations.IoregselHoldsTheIndex : Prop :=
  ∀ s : State, Running s → ∀ d : Word,
    Spells 0x00000090#32 (fun _ => .r32Ioregsel) ∧ Spells 0x00000091#32 (fun t => .w32Ioregsel (data32Of t)) ∧
    exec .r32Ioregsel s = .next (answered s (.data32 (s.ioapic.ioregsel.zeroExtend 32)) []) ∧
    exec (.w32Ioregsel d) s = .next (quiet { s with ioapic := { s.ioapic with ioregsel := d.extractLsb' 0 8 } })

/-- R150, R152, R154, R155, R157: an IOWIN read returns the register that IOREGSEL selects. -/
def Obligations.IowinReadsReturnTheSelectedRegister : Prop :=
  ∀ s : State, Running s →
    Spells 0x00001090#32 (fun _ => .r32Iowin) ∧
    (s.ioapic.ioregsel.toNat = 0x00 → ∀ i ∈ [Instr.r32Iowin, .r32IowinId],
      exec i s = .next (answered s (.data32 (s.ioapic.id.zeroExtend 32 <<< 24)) [])) ∧
    (s.ioapic.ioregsel.toNat = 0x01 → ∀ i ∈ [Instr.r32Iowin, .r32IowinVersion],
      exec i s = .next (answered s (.data32 s.params.ioapicVersion) [])) ∧
    (s.ioapic.ioregsel.toNat = 0x02 → ∀ i ∈ [Instr.r32Iowin, .r32IowinArbitration],
      exec i s = .next (answered s (.data32 (s.ioapic.id.zeroExtend 32 <<< 24)) [])) ∧
    (∀ k : Line, s.ioapic.ioregsel.toNat = 0x10 + 2 * k.val → ∀ i ∈ [Instr.r32Iowin, .r32IowinRedirection],
      exec i s = .next (answered s (.data32 (configOf s.ioapic k)) [])) ∧
    (∀ k : Line, s.ioapic.ioregsel.toNat = 0x11 + 2 * k.val → ∀ i ∈ [Instr.r32Iowin, .r32IowinRedirection],
      exec i s = .next (answered s (.data32 (destOf s.ioapic k)) []))

/-- R151, R153, R156, R159: the IOWIN writes that check no line. -/
def Obligations.IowinWritesReachTheSelectedRegister : Prop :=
  ∀ s : State, Running s → ∀ d : Word,
    Spells 0x00001091#32 (fun t => .w32Iowin (data32Of t)) ∧
    (s.ioapic.ioregsel.toNat = 0x00 → ∀ i ∈ [Instr.w32Iowin d, .w32IowinId d],
      exec i s = .next (quiet { s with ioapic := { s.ioapic with id := d.extractLsb' 24 4 } })) ∧
    (s.ioapic.ioregsel.toNat = 0x01 ∨ s.ioapic.ioregsel.toNat = 0x02 →
      ∀ i ∈ [Instr.w32Iowin d, .w32IowinReadOnly d],
        exec i s = .next (violated .a6BadIoapicIndex s (quiet s))) ∧
    (∀ k : Line, s.ioapic.ioregsel.toNat = 0x11 + 2 * k.val → ∀ i ∈ [Instr.w32Iowin d, .w32IowinDestination d],
      exec i s =
        .next (quiet { s with ioapic := { s.ioapic with dest := s.ioapic.dest.set k (d &&& 0xFF000000#32) } }))

/-- R164: an IOWIN access with an index that names no register is A6. -/
def Obligations.UnknownIowinIndexIsBadIndex : Prop :=
  ∀ s : State, Running s → ∀ d : Word,
    (0x03 ≤ s.ioapic.ioregsel.toNat ∧ s.ioapic.ioregsel.toNat ≤ 0x0F) ∨ 0x40 ≤ s.ioapic.ioregsel.toNat →
    (∀ i ∈ [Instr.r32Iowin, .iowinUnknown none], exec i s = .next (readViolated .a6BadIoapicIndex .data32 s)) ∧
    (∀ i ∈ [Instr.w32Iowin d, .iowinUnknown (some d)],
      exec i s = .next (violated .a6BadIoapicIndex s (quiet s)))

/-- R82 (whose packing is the spec's own reading, log 19), R158, R160: a config write merges the writable bits, then
checks the line. -/
def Obligations.ConfigWriteMergesAndChecksTheLine : Prop :=
  ∀ s : State, Running s → ∀ (k : Line) (d : Word), s.ioapic.ioregsel.toNat = 0x10 + 2 * k.val →
    ∀ i ∈ [Instr.w32Iowin d, .w32IowinConfig d],
      exec i s = .next (lineChecked k
        (setConfig k ((d &&& 0x0001AFFF#32) ||| (configOf s.ioapic k &&& 0xFFFE5000#32)) s))

/-- R160, R161: RAISE. -/
def Obligations.RaiseMarksAndChecksTheLine : Prop :=
  ∀ s : State, Running s → ∀ line : Offset,
    Spells (atOffset 0x00000002#32 line) (fun _ => .raiseLine line) ∧
    (24 ≤ line.toNat → exec (.raiseLine line) s = .next (violated .a5BadLine s (quiet s))) ∧
    ∀ k : Line, line.toNat = k.val →
      let marked : State := { s with ioapic := { s.ioapic with irqValue := setLine s.ioapic.irqValue k } }
      exec (.raiseLine line) s = .next (
        if s.ioapic.irqValue.getLsbD k = true then quiet s
        else if (configOf s.ioapic k).getLsbD 15 = false ∧ (configOf s.ioapic k).getLsbD 16 = true then quiet marked
        else lineChecked k { marked with ioapic := { marked.ioapic with irr := setLine s.ioapic.irr k } })

/-- R162: LOWER. -/
def Obligations.LowerDeassertsTheLine : Prop :=
  ∀ s : State, Running s → ∀ line : Offset,
    Spells (atOffset 0x00000003#32 line) (fun _ => .lowerLine line) ∧
    (24 ≤ line.toNat → exec (.lowerLine line) s = .next (violated .a5BadLine s (quiet s))) ∧
    ∀ k : Line, line.toNat = k.val →
      exec (.lowerLine line) s = .next (quiet
        { s with ioapic :=
          { s.ioapic with
            irqValue := clearLine s.ioapic.irqValue k
            irr := if (configOf s.ioapic k).getLsbD 15 = true then clearLine s.ioapic.irr k else s.ioapic.irr } })

/-- R163, R160: what REMOTE_EOI leaves. An entry is hit if its vector matches and its remote IRR is set, and goes again
if it is hit, still pending and unmasked. Where no violation faults the block, every entry that is hit loses remote IRR
and gets it back if it goes again as a level entry, and the vector requests service if some entry routes it. -/
def Obligations.RemoteEoiReleasesEveryMatchingEntry : Prop :=
  ∀ s : State, Running s → ∀ v : Vec,
    let cfg (k : Line) : Word := configOf s.ioapic k
    let Hit (k : Line) : Prop := (cfg k).extractLsb' 0 8 = v ∧ (cfg k).getLsbD 14 = true
    let GoesAgain (k : Line) : Prop := Hit k ∧ s.ioapic.irr.getLsbD k = true ∧ (cfg k).getLsbD 16 = false
    let Routes (k : Line) : Prop := GoesAgain k ∧ DeliveringMode ((cfg k).extractLsb' 8 3)
    Spells 0x0000000A#32 (fun t => .remoteEoi t.args.vector) ∧
    ∃ t, exec (.remoteEoi v) s = .next t ∧
      t = { s with
            lapic := { s.lapic with irr := t.lapic.irr, tmr := t.lapic.tmr }
            ioapic := { s.ioapic with cfg := t.ioapic.cfg, irr := t.ioapic.irr }
            faulted := t.faulted
            out := { response := .none, events := t.out.events } } ∧
      (∀ k, ¬ Hit k → configOf t.ioapic k = cfg k ∧ t.ioapic.irr.getLsbD k = s.ioapic.irr.getLsbD k) ∧
      (s.params.diagnostic = false ∨
          (∀ k, GoesAgain k → DeliveringMode ((cfg k).extractLsb' 8 3) ∧ Deliverable v) →
        Running t ∧
        (∀ k, Hit k → ¬ GoesAgain k →
          configOf t.ioapic k = cfg k &&& 0xFFFFBFFF#32 ∧ t.ioapic.irr.getLsbD k = s.ioapic.irr.getLsbD k) ∧
        (∀ k, GoesAgain k → (cfg k).getLsbD 15 = true →
          configOf t.ioapic k = cfg k &&& 0xFFFFEFFF#32 ∧ t.ioapic.irr.getLsbD k = true) ∧
        (∀ k, GoesAgain k → (cfg k).getLsbD 15 = false →
          configOf t.ioapic k = cfg k &&& 0xFFFFAFFF#32 ∧ t.ioapic.irr.getLsbD k = false) ∧
        (∀ u : Vec, getBit t.lapic.irr u = true ↔
          getBit s.lapic.irr u = true ∨ (u = v ∧ Deliverable v ∧ ∃ k, Routes k)) ∧
        (∀ u : Vec, u ≠ v ∨ getBit s.lapic.irr v = true ∨ ¬ Deliverable v ∨ (∀ k, ¬ Routes k) →
          getBit t.lapic.tmr u = getBit s.lapic.tmr u) ∧
        (∀ k, Routes k → (∀ j, Routes j → k ≤ j) → getBit s.lapic.irr v = false → Deliverable v →
          getBit t.lapic.tmr v = (cfg k).getLsbD 15))

/-- R163, R189, R191: under `DIAGNOSTIC` the scan ends at the first entry that violates and reports its code. The
entries above stand; entry `n` keeps what the scan did before the violation (R160: a level entry lost remote IRR and
got it back, an edge entry lost it and its pending bit); the entries below, and IRR and TMR, keep all that the scan
did. RemoteEoiReleasesEveryMatchingEntry says that nothing else changes. -/
def Obligations.RemoteEoiScanEndsAtTheFirstViolation : Prop :=
  ∀ s : State, Running s → s.params.diagnostic = true → ∀ (v : Vec) (n : Line),
    let cfg (k : Line) : Word := configOf s.ioapic k
    let Hit (k : Line) : Prop := (cfg k).extractLsb' 0 8 = v ∧ (cfg k).getLsbD 14 = true
    let GoesAgain (k : Line) : Prop := Hit k ∧ s.ioapic.irr.getLsbD k = true ∧ (cfg k).getLsbD 16 = false
    GoesAgain n →
    (∀ k, k < n → GoesAgain k → DeliveringMode ((cfg k).extractLsb' 8 3) ∧ Deliverable v) →
    ¬ (DeliveringMode ((cfg n).extractLsb' 8 3) ∧ Deliverable v) →
    ∃ t, exec (.remoteEoi v) s = .next t ∧
      t.faulted = some (if DeliveringMode ((cfg n).extractLsb' 8 3) then .a3BadVector else .a4BadDeliveryMode) ∧
      (∀ k, n < k → configOf t.ioapic k = cfg k ∧ t.ioapic.irr.getLsbD k = s.ioapic.irr.getLsbD k) ∧
      ((cfg n).getLsbD 15 = true → configOf t.ioapic n = cfg n ∧ t.ioapic.irr.getLsbD n = true) ∧
      ((cfg n).getLsbD 15 = false → configOf t.ioapic n = cfg n &&& 0xFFFFBFFF#32 ∧ t.ioapic.irr.getLsbD n = false) ∧
      (∀ k, k < n → ¬ Hit k → configOf t.ioapic k = cfg k ∧ t.ioapic.irr.getLsbD k = s.ioapic.irr.getLsbD k) ∧
      (∀ k, k < n → Hit k → ¬ GoesAgain k →
        configOf t.ioapic k = cfg k &&& 0xFFFFBFFF#32 ∧ t.ioapic.irr.getLsbD k = s.ioapic.irr.getLsbD k) ∧
      (∀ k, k < n → GoesAgain k → (cfg k).getLsbD 15 = true →
        configOf t.ioapic k = cfg k &&& 0xFFFFEFFF#32 ∧ t.ioapic.irr.getLsbD k = true) ∧
      (∀ k, k < n → GoesAgain k → (cfg k).getLsbD 15 = false →
        configOf t.ioapic k = cfg k &&& 0xFFFFAFFF#32 ∧ t.ioapic.irr.getLsbD k = false) ∧
      (∀ u : Vec, getBit t.lapic.irr u = true ↔
        getBit s.lapic.irr u = true ∨ (u = v ∧ ∃ k, k < n ∧ GoesAgain k)) ∧
      (∀ u : Vec, u ≠ v ∨ getBit s.lapic.irr v = true ∨ (∀ k, k < n → ¬ GoesAgain k) →
        getBit t.lapic.tmr u = getBit s.lapic.tmr u) ∧
      (∀ k, k < n → GoesAgain k → (∀ j, GoesAgain j → k ≤ j) → getBit s.lapic.irr v = false →
        getBit t.lapic.tmr v = (cfg k).getLsbD 15)

/-- R167: only REMOTE_EOI of its vector, by itself or inside an EOI of that vector, clears an entry's remote IRR, RESET
and RESTORE apart. -/
def Obligations.OnlyRemoteEoiClearsRemoteIrr : Prop :=
  ∀ (i : Instr) (s t : State) (k : Line), exec i s = .next t → (∀ n, i ≠ .reset n) → (∀ r, i ≠ .restore r) →
    (configOf s.ioapic k).getLsbD 14 = true → (configOf t.ioapic k).getLsbD 14 = false →
    let v := (configOf s.ioapic k).extractLsb' 0 8
    i = .remoteEoi v ∨ ((∃ d, i = .w32LapicEoi d) ∧ IsHighest s.lapic.isr v ∧ getBit s.lapic.tmr v = true)

/-- R166: an entry whose remote IRR becomes set is a level entry, RESTORE apart. -/
def Obligations.OnlyLevelEntriesSetRemoteIrr : Prop :=
  ∀ (i : Instr) (s t : State) (k : Line), exec i s = .next t → (∀ r, i ≠ .restore r) →
    (configOf s.ioapic k).getLsbD 14 = false → (configOf t.ioapic k).getLsbD 14 = true →
    (configOf t.ioapic k).getLsbD 15 = true

/-- R167: a level entry in service routes nothing: neither a RAISE of its line nor a config write that leaves it a level
entry reaches the LAPIC. -/
def Obligations.EntryInServiceDoesNotRouteAgain : Prop :=
  ∀ s : State, Running s → ∀ k : Line, (configOf s.ioapic k).getLsbD 14 = true →
    (∀ line : Offset, line.toNat = k.val → (configOf s.ioapic k).getLsbD 15 = true →
      ∃ t, exec (.raiseLine line) s = .next t ∧ t.lapic = s.lapic ∧ t.out.events = [] ∧
        configOf t.ioapic k = configOf s.ioapic k) ∧
    (∀ d : Word, s.ioapic.ioregsel.toNat = 0x10 + 2 * k.val → d.getLsbD 15 = true →
      ∃ t, exec (.w32Iowin d) s = .next t ∧ t.lapic = s.lapic ∧ t.out.events = [] ∧
        (configOf t.ioapic k).getLsbD 14 = true)

/-- R40, R82: the reserved bits 31:17 of a config word change only by RESET and RESTORE, and delivery status is never
set by anything else. -/
def Obligations.ReservedConfigBitsStand : Prop :=
  ∀ (i : Instr) (s t : State) (k : Line), exec i s = .next t → (∀ n, i ≠ .reset n) → (∀ r, i ≠ .restore r) →
    (∀ b : Fin 32, 17 ≤ b.val → (configOf t.ioapic k).getLsbD b = (configOf s.ioapic k).getLsbD b) ∧
    ((configOf t.ioapic k).getLsbD 12 = true → (configOf s.ioapic k).getLsbD 12 = true)

/-- R37 to R43: which transactions may change a register or a line bit of the IOAPIC, RESET and RESTORE apart. A config
word changes only by its IOWIN write, by RAISE of its line, and by the REMOTE_EOI that releases its entry, by itself or
inside an EOI; its writable bits (R82) only by the first. A pending bit is set by RAISE and cleared by LOWER of a level
entry, or by any of the three where it is an unmasked edge entry (R160). -/
def Obligations.IoapicRegistersChangeOnlyByTheirTransactions : Prop :=
  ∀ (i : Instr) (s t : State), exec i s = .next t → (∀ n, i ≠ .reset n) → (∀ r, i ≠ .restore r) →
    (t.ioapic.ioregsel = s.ioapic.ioregsel ∨ ∃ d, i = .w32Ioregsel d) ∧
    (t.ioapic.id = s.ioapic.id ∨ ∃ d, carrier i = .w32Iowin d ∧ s.ioapic.ioregsel = 0x00#8) ∧
    (∀ k : Line, destOf t.ioapic k = destOf s.ioapic k ∨
      ∃ d, carrier i = .w32Iowin d ∧ s.ioapic.ioregsel.toNat = 0x11 + 2 * k.val) ∧
    (∀ k : Line, s.ioapic.irqValue.getLsbD k = false → t.ioapic.irqValue.getLsbD k = true →
      i = .raiseLine (BitVec.ofNat 20 k.val)) ∧
    (∀ k : Line, s.ioapic.irqValue.getLsbD k = true → t.ioapic.irqValue.getLsbD k = false →
      i = .lowerLine (BitVec.ofNat 20 k.val)) ∧
    (∀ k : Line, s.ioapic.irr.getLsbD k = false → t.ioapic.irr.getLsbD k = true →
      i = .raiseLine (BitVec.ofNat 20 k.val)) ∧
    let WritesConfig (k : Line) : Prop :=
      ∃ d, carrier i = .w32Iowin d ∧ s.ioapic.ioregsel.toNat = 0x10 + 2 * k.val
    let Releases (k : Line) : Prop :=
      let v := (configOf s.ioapic k).extractLsb' 0 8
      (configOf s.ioapic k).getLsbD 14 = true ∧
        (i = .remoteEoi v ∨ ((∃ d, i = .w32LapicEoi d) ∧ IsHighest s.lapic.isr v ∧ getBit s.lapic.tmr v = true))
    let ChecksLine (k : Line) : Prop := i = .raiseLine (BitVec.ofNat 20 k.val) ∨ WritesConfig k ∨ Releases k
    (∀ k : Line, configOf t.ioapic k &&& 0x0001AFFF#32 = configOf s.ioapic k &&& 0x0001AFFF#32 ∨ WritesConfig k) ∧
    (∀ k : Line, configOf t.ioapic k = configOf s.ioapic k ∨ ChecksLine k) ∧
    (∀ k : Line, s.ioapic.irr.getLsbD k = true → t.ioapic.irr.getLsbD k = false →
      (i = .lowerLine (BitVec.ofNat 20 k.val) ∧ (configOf s.ioapic k).getLsbD 15 = true) ∨
      (ChecksLine k ∧ (configOf t.ioapic k).getLsbD 15 = false ∧ (configOf t.ioapic k).getLsbD 16 = false))

/-! ## Reset, restore and snapshot -/

/-- R201: RESET, in any state. -/
def Obligations.ResetWritesEveryField : Prop :=
  ∀ (s : State) (now : Nat),
    let t : State :=
      { s with
        lapic :=
          { id := 0, tpr := 0, ldr := 0, dfr := 0xFFFFFFFF, svr := 0x000000FF, isr := 0, tmr := 0, irr := 0, error := 0
            readError := 0, icr0 := 0, icr1 := 0, lvtTimer := 0x00010000, lvtPerf := 0x00010000, lvtInt0 := 0x00010000
            lvtInt1 := 0x00010000, lvtError := 0x00010000, timerDiv := 0, timerShift := 1, timerInitial := 0
            timerCurrent := 0, nextTick := now }
        ioapic :=
          { ioregsel := 0, id := 0, cfg := Vector.replicate 24 0x00010000, dest := Vector.replicate 24 0, irqValue := 0
            irr := 0 }
        faulted := none
        out := { response := .none, events := [] } }
    Spells 0x00000006#32 (fun u => .reset u.now) ∧ exec (.reset now) s = .next t ∧ intr t = false

/-- R202: the first reads after a RESET. -/
def Obligations.ReadsRightAfterReset : Prop :=
  ∀ (s t : State) (now : Nat), exec (.reset now) s = .next t →
    (∀ row ∈ [(Instr.r32LapicId, 0x00000000#32), (.r32LapicVersion, s.params.lapicVersion), (.r32LapicTpr, 0x00000000#32),
        (.r32LapicLdr, 0x00000000#32), (.r32LapicDfr, 0xFFFFFFFF#32), (.r32LapicSvr, 0x000000FF#32),
        (.r32LapicError, 0x00000000#32), (.r32LapicIcrLow, 0x00000000#32), (.r32LapicIcrHigh, 0x00000000#32),
        (.r32LapicLvtTimer, 0x00010000#32), (.r32LapicLvtPerf, 0x00010000#32), (.r32LapicLvtInt0, 0x00010000#32),
        (.r32LapicLvtInt1, 0x00010000#32), (.r32LapicLvtError, 0x00010000#32), (.r32LapicTimerInitial, 0x00000000#32),
        (.r32LapicTimerCurrent, 0x00000000#32), (.r32LapicTimerDivide, 0x00000000#32), (.r32Ioregsel, 0x00000000#32)],
      exec row.1 t = .next (answered t (.data32 row.2) [])) ∧
    (∀ j : BitVec 3, ∀ i ∈ [Instr.r32LapicIsr j, .r32LapicTmr j, .r32LapicIrr j],
      exec i t = .next (answered t (.data32 0x00000000#32) [])) ∧
    ∀ (d : Word) (u : State), exec (.w32Ioregsel d) t = .next u →
      (d = 0x00#32 → exec .r32Iowin u = .next (answered u (.data32 0x00000000#32) [])) ∧
      (d = 0x01#32 → exec .r32Iowin u = .next (answered u (.data32 s.params.ioapicVersion) [])) ∧
      (d = 0x02#32 → exec .r32Iowin u = .next (answered u (.data32 0x00000000#32) [])) ∧
      (∀ k : Line, d.toNat = 0x10 + 2 * k.val →
        exec .r32Iowin u = .next (answered u (.data32 0x00010000#32) [])) ∧
      (∀ k : Line, d.toNat = 0x11 + 2 * k.val →
        exec .r32Iowin u = .next (answered u (.data32 0x00000000#32) []))

/-- R47, R201: the machine right after reset is well-formed and not FAULTED, nothing is pending, and it is what RESET at
time 0 leaves (log 7). -/
def Obligations.ResetStateIsWellFormed : Prop :=
  RecordWellFormed State.reset ∧ Running State.reset ∧ intr State.reset = false ∧
    exec (.reset 0) State.reset = .next State.reset

/-- R176: RESTORE overwrites every field with a well-formed record, in any state, and refuses any other record. -/
def Obligations.RestoreInstallsAWellFormedRecord : Prop :=
  ∀ (s : State) (r : Record),
    Spells 0x00000007#32 (fun t => .restore t.record) ∧
    (r.WellFormed →
      exec (.restore r) s = .next (quiet { s with lapic := r.lapic, ioapic := r.ioapic, faulted := none })) ∧
    (¬ r.WellFormed → exec (.restore r) s = .refused .illFormedRestore)

/-- R175: SNAPSHOT returns the record and changes nothing. -/
def Obligations.SnapshotReturnsTheRecord : Prop :=
  ∀ s : State, Running s →
    Spells 0x00000008#32 (fun _ => .snapshot) ∧
    exec .snapshot s = .next (answered s (.record { lapic := s.lapic, ioapic := s.ioapic }) [])

/-- R180: a snapshot restored into a freshly reset block reproduces the state, from every state that R47 allows. -/
def Obligations.SnapshotThenRestoreRoundTrips : Prop :=
  ∀ (s t u₀ u : State) (r : Record) (now : Nat), RecordWellFormed s → exec .snapshot s = .next t →
    t.out.response = .record r → exec (.reset now) u₀ = .next u →
    ∃ w, exec (.restore r) u = .next w ∧ w.lapic = s.lapic ∧ w.ioapic = s.ioapic ∧ Running w ∧ w.out.events = []

/-- R47: every step keeps the record well-formed, and RESTORE installs no other. -/
def Obligations.StepKeepsTheRecordWellFormed : Prop :=
  (∀ s t : State, RecordWellFormed s → step s = .next t → RecordWellFormed t) ∧
  (∀ (s t : State) (r : Record), exec (.restore r) s = .next t → RecordWellFormed t)
end

