-- ==== Sys2Proof/Laws/Bits.lean ====
section
/-! SUPPORT. Laws of the 256-bit registers (spec/40_bitvector.md), of the 24-bit line registers and of the fields of a
redirection config word. -/

namespace Sys2Proof.Machine

/-! ## 256-bit registers -/

theorem vec_toNat_lt (v : Vec) : v.toNat < 256 := v.isLt

/-- R93: only bit `v` changes. -/
@[simp] theorem getBit_setBit (b : Bits256) (v u : Vec) : getBit (setBit b v) u = (decide (u = v) || getBit b u) := by
  have hv := vec_toNat_lt v
  have hu := vec_toNat_lt u
  unfold getBit setBit
  rw [BitVec.getLsbD_or, BitVec.getLsbD_shiftLeft, BitVec.getLsbD_one]
  by_cases h : u = v
  · subst h; simp [hu]
  · have hne : u.toNat ≠ v.toNat := fun e => h (BitVec.eq_of_toNat_eq e)
    simp only [h, decide_false, Bool.false_or]
    by_cases hlt : u.toNat < v.toNat
    · simp [hlt]
    · have : u.toNat - v.toNat ≠ 0 := by omega
      simp [this]

/-- R94: only bit `v` changes. -/
@[simp] theorem getBit_clearBit (b : Bits256) (v u : Vec) :
    getBit (clearBit b v) u = (!decide (u = v) && getBit b u) := by
  have hv := vec_toNat_lt v
  have hu := vec_toNat_lt u
  unfold getBit clearBit
  rw [BitVec.getLsbD_and, BitVec.getLsbD_not, BitVec.getLsbD_shiftLeft, BitVec.getLsbD_one]
  by_cases h : u = v
  · subst h; simp [hu]
  · have hne : u.toNat ≠ v.toNat := fun e => h (BitVec.eq_of_toNat_eq e)
    simp only [h, decide_false, Bool.not_false, Bool.true_and, hu, decide_true]
    by_cases hlt : u.toNat < v.toNat
    · simp [hlt]
    · have : u.toNat - v.toNat ≠ 0 := by omega
      simp [this]

/-- The scan of R95 below bit `n` finds `v` exactly when `v` is the highest set bit below `n`. -/
theorem highestBelow_eq_some_iff (b : Bits256) (n : Nat) (hn : n ≤ 256) (v : Vec) :
    highestBelow b n = some v ↔
      v.toNat < n ∧ getBit b v = true ∧ ∀ u : Vec, u.toNat < n → getBit b u = true → u.toNat ≤ v.toNat := by
  induction n with
  | zero => simp [highestBelow]
  | succ n ih =>
    have hn' : n < 256 := by omega
    have hbit : getBit b (BitVec.ofNat 8 n) = b.getLsbD n := by
      simp [getBit, Nat.mod_eq_of_lt hn']
    unfold highestBelow
    by_cases hb : b.getLsbD n
    · simp only [hb, if_true, Option.some.injEq]
      constructor
      · rintro rfl
        refine ⟨by simp [Nat.mod_eq_of_lt hn'], by simp [hbit, hb], fun u hu _ => ?_⟩
        simp [Nat.mod_eq_of_lt hn']; omega
      · rintro ⟨hlt, _, hmax⟩
        have h1 := hmax (BitVec.ofNat 8 n) (by simp [Nat.mod_eq_of_lt hn']) (by simp [hbit, hb])
        have h2 : (BitVec.ofNat 8 n).toNat = n := by simp [Nat.mod_eq_of_lt hn']
        apply BitVec.eq_of_toNat_eq
        omega
    · simp only [hb]
      rw [if_neg (by simp), ih (by omega)]
      constructor
      · rintro ⟨h1, h2, h3⟩
        refine ⟨by omega, h2, fun u hu hbu => h3 u ?_ hbu⟩
        rcases Nat.lt_succ_iff_lt_or_eq.mp hu with h | h
        · exact h
        · exact absurd (h ▸ hbu : b.getLsbD n = true) hb
      · rintro ⟨h1, h2, h3⟩
        refine ⟨?_, h2, fun u hu hbu => h3 u (by omega) hbu⟩
        rcases Nat.lt_succ_iff_lt_or_eq.mp h1 with h | h
        · exact h
        · exact absurd (h ▸ h2 : b.getLsbD n = true) hb

/-- The scan of R95 below bit `n` finds nothing exactly when no bit below `n` is set. -/
theorem highestBelow_eq_none_iff (b : Bits256) (n : Nat) (hn : n ≤ 256) :
    highestBelow b n = none ↔ ∀ u : Vec, u.toNat < n → getBit b u = false := by
  induction n with
  | zero => simp [highestBelow]
  | succ n ih =>
    have hn' : n < 256 := by omega
    unfold highestBelow
    by_cases hb : b.getLsbD n
    · simp only [hb, if_true, reduceCtorEq, false_iff, not_forall]
      exact ⟨BitVec.ofNat 8 n, by simp [Nat.mod_eq_of_lt hn'], by simp [getBit, Nat.mod_eq_of_lt hn', hb]⟩
    · simp only [hb]
      rw [if_neg (by simp), ih (by omega)]
      constructor
      · intro h u hu
        rcases Nat.lt_succ_iff_lt_or_eq.mp hu with h' | h'
        · exact h u h'
        · simpa [getBit, h'] using hb
      · exact fun h u hu => h u (by omega)

/-- R95: `highest` is the numeric maximum of the set bits. -/
theorem highest_eq_some_iff (b : Bits256) (v : Vec) :
    highest b = some v ↔ getBit b v = true ∧ ∀ u : Vec, getBit b u = true → u ≤ v := by
  unfold highest
  rw [highestBelow_eq_some_iff b 256 (le_refl _)]
  constructor
  · exact fun ⟨_, h2, h3⟩ => ⟨h2, fun u hu => h3 u u.isLt hu⟩
  · exact fun ⟨h2, h3⟩ => ⟨v.isLt, h2, fun u _ hu => h3 u hu⟩

/-- R95: `highest` is `none` exactly for the zero register. -/
theorem highest_eq_none_iff (b : Bits256) : highest b = none ↔ ∀ u : Vec, getBit b u = false := by
  unfold highest
  rw [highestBelow_eq_none_iff b 256 (le_refl _)]
  exact ⟨fun h u => h u u.isLt, fun h u _ => h u⟩

/-- R97 and R73: bit `k` of word `j` is the bit of vector `32 * j + k`. -/
theorem wordOf_getLsbD (b : Bits256) (j : BitVec 3) (k : Fin 32) :
    (wordOf b j).getLsbD k = b.getLsbD (32 * j.toNat + k.val) := by
  simp [wordOf]

/-! ## 24-bit line registers -/

@[simp] theorem getLsbD_setLine (b : BitVec 24) (k j : Line) :
    (setLine b k).getLsbD j = (decide (j = k) || b.getLsbD j) := by
  have hk := k.isLt
  have hj := j.isLt
  unfold setLine
  rw [BitVec.getLsbD_or, BitVec.getLsbD_shiftLeft, BitVec.getLsbD_one]
  by_cases h : j = k
  · subst h; simp
  · have hne : j.val ≠ k.val := fun e => h (Fin.ext e)
    simp only [h, decide_false, Bool.false_or]
    by_cases hlt : j.val < k.val
    · simp [hlt]
    · have : j.val - k.val ≠ 0 := by omega
      simp [this]

@[simp] theorem getLsbD_clearLine (b : BitVec 24) (k j : Line) :
    (clearLine b k).getLsbD j = (!decide (j = k) && b.getLsbD j) := by
  have hk := k.isLt
  have hj := j.isLt
  unfold clearLine
  rw [BitVec.getLsbD_and, BitVec.getLsbD_not, BitVec.getLsbD_shiftLeft, BitVec.getLsbD_one]
  by_cases h : j = k
  · subst h; simp
  · have hne : j.val ≠ k.val := fun e => h (Fin.ext e)
    simp only [h, decide_false, Bool.not_false, Bool.true_and]
    by_cases hlt : j.val < k.val
    · simp [hlt]
    · have : j.val - k.val ≠ 0 := by omega
      simp [this]

/-! ## Redirection config words -/

/-- Two words that agree on every bit but those of `m` have the same fields away from `m`. -/
theorem extractLsb'_congr {a b : Word} {start len : Nat}
    (h : ∀ i, i < len → a.getLsbD (start + i) = b.getLsbD (start + i)) :
    a.extractLsb' start len = b.extractLsb' start len := by
  apply BitVec.eq_of_getLsbD_eq
  intro i hi
  simp only [BitVec.getLsbD_extractLsb', hi, decide_true, Bool.true_and]
  exact h i hi

/-- Bit `i` of `REMOTE_IRR`. -/
theorem getLsbD_remoteIrrBit (i : Nat) (hi : i < 32) : remoteIrrBit.getLsbD i = decide (i = 14) := by
  have h : ∀ j : Fin 32, remoteIrrBit.getLsbD j = decide (j.val = 14) := by decide
  exact h ⟨i, hi⟩

/-- Bit `i` of `DELIV_STATUS`. -/
theorem getLsbD_delivStatusBit (i : Nat) (hi : i < 32) : delivStatusBit.getLsbD i = decide (i = 12) := by
  have h : ∀ j : Fin 32, delivStatusBit.getLsbD j = decide (j.val = 12) := by decide
  exact h ⟨i, hi⟩

/-- `setRemoteIrr` changes bit 14 only. -/
theorem getLsbD_setRemoteIrr (w : Word) (i : Nat) (hi : i < 32) :
    (setRemoteIrr w).getLsbD i = (decide (i = 14) || w.getLsbD i) := by
  rw [setRemoteIrr, BitVec.getLsbD_or, getLsbD_remoteIrrBit i hi, Bool.or_comm]

/-- `clearRemoteIrr` changes bit 14 only. -/
theorem getLsbD_clearRemoteIrr (w : Word) (i : Nat) (hi : i < 32) :
    (clearRemoteIrr w).getLsbD i = (!decide (i = 14) && w.getLsbD i) := by
  rw [clearRemoteIrr, BitVec.getLsbD_and, BitVec.getLsbD_not, getLsbD_remoteIrrBit i hi, Bool.and_comm]
  simp only [hi, decide_true, Bool.true_and]

/-- `clearDelivStatus` changes bit 12 only. -/
theorem getLsbD_clearDelivStatus (w : Word) (i : Nat) (hi : i < 32) :
    (clearDelivStatus w).getLsbD i = (!decide (i = 12) && w.getLsbD i) := by
  rw [clearDelivStatus, BitVec.getLsbD_and, BitVec.getLsbD_not, getLsbD_delivStatusBit i hi, Bool.and_comm]
  simp only [hi, decide_true, Bool.true_and]

@[simp] theorem remoteIrr_setRemoteIrr (w : Word) : remoteIrr (setRemoteIrr w) = true := by
  unfold remoteIrr
  rw [getLsbD_setRemoteIrr _ _ (by omega)]
  simp

@[simp] theorem remoteIrr_clearRemoteIrr (w : Word) : remoteIrr (clearRemoteIrr w) = false := by
  unfold remoteIrr
  rw [getLsbD_clearRemoteIrr _ _ (by omega)]
  simp

@[simp] theorem remoteIrr_clearDelivStatus (w : Word) : remoteIrr (clearDelivStatus w) = remoteIrr w := by
  unfold remoteIrr
  rw [getLsbD_clearDelivStatus _ _ (by omega)]
  simp

@[simp] theorem isMasked_setRemoteIrr (w : Word) : isMasked (setRemoteIrr w) = isMasked w := by
  unfold isMasked
  rw [getLsbD_setRemoteIrr _ _ (by omega)]
  simp

@[simp] theorem isMasked_clearRemoteIrr (w : Word) : isMasked (clearRemoteIrr w) = isMasked w := by
  unfold isMasked
  rw [getLsbD_clearRemoteIrr _ _ (by omega)]
  simp

@[simp] theorem isMasked_clearDelivStatus (w : Word) : isMasked (clearDelivStatus w) = isMasked w := by
  unfold isMasked
  rw [getLsbD_clearDelivStatus _ _ (by omega)]
  simp

@[simp] theorem isLevelField_setRemoteIrr (w : Word) : isLevelField (setRemoteIrr w) = isLevelField w := by
  unfold isLevelField
  rw [getLsbD_setRemoteIrr _ _ (by omega)]
  simp

@[simp] theorem isLevelField_clearRemoteIrr (w : Word) : isLevelField (clearRemoteIrr w) = isLevelField w := by
  unfold isLevelField
  rw [getLsbD_clearRemoteIrr _ _ (by omega)]
  simp

@[simp] theorem isLevelField_clearDelivStatus (w : Word) : isLevelField (clearDelivStatus w) = isLevelField w := by
  unfold isLevelField
  rw [getLsbD_clearDelivStatus _ _ (by omega)]
  simp

@[simp] theorem vectorField_setRemoteIrr (w : Word) : vectorField (setRemoteIrr w) = vectorField w :=
  extractLsb'_congr fun i hi => by rw [getLsbD_setRemoteIrr w _ (by omega)]; simp; omega

@[simp] theorem vectorField_clearRemoteIrr (w : Word) : vectorField (clearRemoteIrr w) = vectorField w :=
  extractLsb'_congr fun i hi => by rw [getLsbD_clearRemoteIrr w _ (by omega)]; simp; omega

@[simp] theorem vectorField_clearDelivStatus (w : Word) : vectorField (clearDelivStatus w) = vectorField w :=
  extractLsb'_congr fun i hi => by rw [getLsbD_clearDelivStatus w _ (by omega)]; simp; omega

@[simp] theorem modeField_setRemoteIrr (w : Word) : modeField (setRemoteIrr w) = modeField w :=
  extractLsb'_congr fun i hi => by rw [getLsbD_setRemoteIrr w _ (by omega)]; simp; omega

@[simp] theorem modeField_clearRemoteIrr (w : Word) : modeField (clearRemoteIrr w) = modeField w :=
  extractLsb'_congr fun i hi => by rw [getLsbD_clearRemoteIrr w _ (by omega)]; simp; omega

@[simp] theorem modeField_clearDelivStatus (w : Word) : modeField (clearDelivStatus w) = modeField w :=
  extractLsb'_congr fun i hi => by rw [getLsbD_clearDelivStatus w _ (by omega)]; simp; omega

/-- Bit `i` of `CFG_WR`: R82's writable positions. -/
theorem getLsbD_cfgWritable (i : Nat) (hi : i < 32) :
    cfgWritable.getLsbD i = decide (i ≤ 16 ∧ i ≠ 12 ∧ i ≠ 14) := by
  have h : ∀ j : Fin 32, cfgWritable.getLsbD j = decide (j.val ≤ 16 ∧ j.val ≠ 12 ∧ j.val ≠ 14) := by decide
  exact h ⟨i, hi⟩

/-- `CFG_RO` is the complement of `CFG_WR` (R82). -/
theorem cfgReadOnly_eq : cfgReadOnly = ~~~cfgWritable := by decide

/-- R158: a writable bit is the data's, every other bit is the old word's. -/
theorem getLsbD_mergeConfig (data old : Word) (i : Nat) (hi : i < 32) :
    (mergeConfig data old).getLsbD i = if i ≤ 16 ∧ i ≠ 12 ∧ i ≠ 14 then data.getLsbD i else old.getLsbD i := by
  rw [mergeConfig, cfgReadOnly_eq, BitVec.getLsbD_or, BitVec.getLsbD_and, BitVec.getLsbD_and, BitVec.getLsbD_not,
    getLsbD_cfgWritable i hi]
  by_cases h : i ≤ 16 ∧ i ≠ 12 ∧ i ≠ 14 <;> simp [h, hi]

/-- R158: a config write keeps remote IRR. -/
@[simp] theorem remoteIrr_mergeConfig (data old : Word) : remoteIrr (mergeConfig data old) = remoteIrr old := by
  unfold remoteIrr
  rw [getLsbD_mergeConfig _ _ _ (by omega)]
  simp

end Sys2Proof.Machine
end

