-- ==== Sys2Proof/Laws/Decode.lean ====
section
/-! SUPPORT. Laws of the descriptor's fields (spec/30_encoding.md R68) and of the offset map (R72, R73). -/

namespace Sys2Proof

theorem descriptor_getLsbD (kind : BitVec 4) (space wcode : BitVec 2) (off : Offset) (i : Nat) :
    (descriptor kind space wcode off).getLsbD i =
      if i < 4 then kind.getLsbD i
      else if i < 6 then space.getLsbD (i - 4)
      else if i < 8 then wcode.getLsbD (i - 6)
      else if i < 28 then off.getLsbD (i - 8) else false := by
  unfold descriptor
  simp only [BitVec.getLsbD_append, BitVec.getLsbD_zero]
  by_cases h1 : i < 4
  · simp [h1]
  · by_cases h2 : i < 6
    · have : i - 4 < 2 := by omega
      simp [h1, h2, this]
    · by_cases h3 : i < 8
      · have h2' : ¬ i - 4 < 2 := by omega
        have h3' : i - 4 - 2 < 2 := by omega
        simp only [h1, h2, h3, h2', h3', if_true, if_false]
        congr 1
      · have h2' : ¬ i - 4 < 2 := by omega
        have h3' : ¬ i - 4 - 2 < 2 := by omega
        by_cases h4 : i < 28
        · have h4' : i - 4 - 2 - 2 < 20 := by omega
          simp only [h1, h2, h3, h4, h2', h3', h4', if_true, if_false]
          congr 1
        · have h4' : ¬ i - 4 - 2 - 2 < 20 := by omega
          simp only [h1, h2, h3, h4, h2', h3', h4', if_false]

@[simp] theorem kindField_descriptor (kind : BitVec 4) (space wcode : BitVec 2) (off : Offset) :
    kindField (descriptor kind space wcode off) = kind := by
  apply BitVec.eq_of_getLsbD_eq
  intro i hi
  simp only [kindField, BitVec.getLsbD_extractLsb', descriptor_getLsbD, hi, decide_true, Bool.true_and, Nat.zero_add,
    if_true]

@[simp] theorem spaceField_descriptor (kind : BitVec 4) (space wcode : BitVec 2) (off : Offset) :
    spaceField (descriptor kind space wcode off) = space := by
  apply BitVec.eq_of_getLsbD_eq
  intro i hi
  have h1 : ¬ 4 + i < 4 := by omega
  have h2 : 4 + i < 6 := by omega
  have h3 : 4 + i - 4 = i := by omega
  simp only [spaceField, BitVec.getLsbD_extractLsb', descriptor_getLsbD, hi, h1, h2, h3, decide_true, Bool.true_and,
    if_true, if_false]

@[simp] theorem wcodeField_descriptor (kind : BitVec 4) (space wcode : BitVec 2) (off : Offset) :
    wcodeField (descriptor kind space wcode off) = wcode := by
  apply BitVec.eq_of_getLsbD_eq
  intro i hi
  have h1 : ¬ 6 + i < 4 := by omega
  have h2 : ¬ 6 + i < 6 := by omega
  have h3 : 6 + i < 8 := by omega
  have h4 : 6 + i - 6 = i := by omega
  simp only [wcodeField, BitVec.getLsbD_extractLsb', descriptor_getLsbD, hi, h1, h2, h3, h4, decide_true,
    Bool.true_and, if_true, if_false]

@[simp] theorem offsetField_descriptor (kind : BitVec 4) (space wcode : BitVec 2) (off : Offset) :
    offsetField (descriptor kind space wcode off) = off := by
  apply BitVec.eq_of_getLsbD_eq
  intro i hi
  have h1 : ¬ 8 + i < 4 := by omega
  have h2 : ¬ 8 + i < 6 := by omega
  have h3 : ¬ 8 + i < 8 := by omega
  have h4 : 8 + i < 28 := by omega
  have h5 : 8 + i - 8 = i := by omega
  simp only [offsetField, BitVec.getLsbD_extractLsb', descriptor_getLsbD, hi, h1, h2, h3, h4, h5, decide_true,
    Bool.true_and, if_true, if_false]

@[simp] theorem zeroField_descriptor (kind : BitVec 4) (space wcode : BitVec 2) (off : Offset) :
    zeroField (descriptor kind space wcode off) = 0#4 := by
  apply BitVec.eq_of_getLsbD_eq
  intro i hi
  have h1 : ¬ 28 + i < 4 := by omega
  have h2 : ¬ 28 + i < 6 := by omega
  have h3 : ¬ 28 + i < 8 := by omega
  have h4 : ¬ 28 + i < 28 := by omega
  simp only [zeroField, BitVec.getLsbD_extractLsb', descriptor_getLsbD, h1, h2, h3, h4, if_false,
    Bool.and_false, BitVec.getLsbD_zero]

/-- A descriptor whose bits 31:28 are zero is made of its fields. -/
theorem descriptor_fields (d : Word) (h : zeroField d = 0#4) :
    descriptor (kindField d) (spaceField d) (wcodeField d) (offsetField d) = d := by
  apply BitVec.eq_of_getLsbD_eq
  intro i hi
  rw [descriptor_getLsbD]
  split
  · rename_i h1; simp [kindField, h1]
  split
  · rename_i h1 h2
    have h3 : i - 4 < 2 := by omega
    have h4 : 4 + (i - 4) = i := by omega
    simp only [spaceField, BitVec.getLsbD_extractLsb', h3, h4, decide_true, Bool.true_and]
  split
  · rename_i h1 h2 h3
    have h4 : i - 6 < 2 := by omega
    have h5 : 6 + (i - 6) = i := by omega
    simp only [wcodeField, BitVec.getLsbD_extractLsb', h4, h5, decide_true, Bool.true_and]
  split
  · rename_i h1 h2 h3 h4
    have h5 : i - 8 < 20 := by omega
    have h6 : 8 + (i - 8) = i := by omega
    simp only [offsetField, BitVec.getLsbD_extractLsb', h5, h6, decide_true, Bool.true_and]
  · rename_i h1 h2 h3 h4
    have h5 : i - 28 < 4 := by omega
    have h6 : 28 + (i - 28) = i := by omega
    have h7 := congrArg (fun b => b.getLsbD (i - 28)) h
    simp only [zeroField, BitVec.getLsbD_extractLsb', h5, h6, decide_true, Bool.true_and, BitVec.getLsbD_zero] at h7
    exact h7.symm

/-- Masking the offset bits away (the mask of every row of spec/opcode_table.json that has an offset or a line). -/
theorem descriptor_and_offsetMask (kind : BitVec 4) (space wcode : BitVec 2) (off : Offset) :
    descriptor kind space wcode off &&& 0xF00000FF#32 = descriptor kind space wcode 0#20 := by
  apply BitVec.eq_of_getLsbD_eq
  intro i hi
  have hm : ∀ j : Fin 32, (0xF00000FF#32).getLsbD j = decide (j.val < 8 ∨ 28 ≤ j.val) := by decide
  have hm' := hm ⟨i, hi⟩
  rw [BitVec.getLsbD_and, descriptor_getLsbD, descriptor_getLsbD, hm']
  by_cases h1 : i < 4
  · have h2 : i < 8 := by omega
    simp [h1, h2]
  by_cases h2 : i < 6
  · have h3 : i < 8 := by omega
    simp [h1, h2, h3]
  by_cases h3 : i < 8
  · simp [h1, h2, h3]
  by_cases h4 : i < 28
  · simp [h1, h2, h3, h4]
  · simp [h1, h2, h3, h4]

namespace Machine

/-- R72, R73: the register at a register's offset is that register. -/
@[simp] theorem lapicRegAt_lapicOffset (r : LapicReg) : lapicRegAt (lapicOffset r) = some r := by
  have h : ∀ j : BitVec 3, lapicRegAt (lapicOffset (.isr j)) = some (.isr j) ∧
      lapicRegAt (lapicOffset (.tmr j)) = some (.tmr j) ∧ lapicRegAt (lapicOffset (.irr j)) = some (.irr j) := by
    decide
  cases r with
  | isr j => exact (h j).1
  | tmr j => exact (h j).2.1
  | irr j => exact (h j).2.2
  | _ => decide

/-- An offset in words of a 256-bit register is made of its base and its word number (R73). -/
theorem word_offset_eq (base : BitVec 13) (off : Offset) (h0 : off.extractLsb' 0 4 = 0#4)
    (h7 : off.extractLsb' 7 13 = base) : base ++ off.extractLsb' 4 3 ++ 0#4 = off := by
  apply BitVec.eq_of_getLsbD_eq
  intro i hi
  simp only [BitVec.getLsbD_append, BitVec.getLsbD_extractLsb', BitVec.getLsbD_zero]
  by_cases h1 : i < 4
  · have := congrArg (fun b => b.getLsbD i) h0
    simp only [BitVec.getLsbD_extractLsb', h1, decide_true, Bool.true_and, Nat.zero_add, BitVec.getLsbD_zero] at this
    simp only [h1, if_true]; exact this.symm
  · by_cases h2 : i < 7
    · have h3 : i - 4 < 3 := by omega
      have h4 : 4 + (i - 4) = i := by omega
      simp only [h1, h3, h4, if_true, if_false, decide_true, Bool.true_and]
    · have h3 : ¬ i - 4 < 3 := by omega
      have h4 : i - 4 - 3 < 13 := by omega
      have h5 : 7 + (i - 4 - 3) = i := by omega
      rw [← h7]
      simp only [h1, h3, h4, h5, if_false, decide_true, Bool.true_and, BitVec.getLsbD_extractLsb']

/-- R72, R73: a register is found at its own offset only. -/
theorem lapicOffset_of_lapicRegAt {off : Offset} {r : LapicReg} (h : lapicRegAt off = some r) : lapicOffset r = off := by
  unfold lapicRegAt at h
  split at h
  · rename_i hc; cases h; exact word_offset_eq _ _ hc.1 hc.2
  split at h
  · rename_i hc; cases h; exact word_offset_eq _ _ hc.1 hc.2
  split at h
  · rename_i hc; cases h; exact word_offset_eq _ _ hc.1 hc.2
  · have := List.find?_some h
    simpa using this

end Machine

/-! ## Decoding by the fields of the descriptor -/

/-- Decoding reads a descriptor through its fields (R68). -/
theorem decode_descriptor {t : Tx} {kind : BitVec 4} {space wcode : BitVec 2} {off : Offset}
    (h : t.desc = descriptor kind space wcode off) :
    decode t =
      match kind.toNat with
      | 0 => decodeRead space wcode off
      | 1 => decodeWrite space wcode off t.data t.now
      | 2 => if space = 0#2 ∧ wcode = 0#2 then .ok (.raiseLine off) else .error .unusedField
      | 3 => if space = 0#2 ∧ wcode = 0#2 then .ok (.lowerLine off) else .error .unusedField
      | 4 => bareKind t.desc .ack
      | 5 => bareKind t.desc (.tick t.now)
      | 6 => bareKind t.desc (.reset t.now)
      | 7 => bareKind t.desc (.restore t.record)
      | 8 => bareKind t.desc .snapshot
      | 9 => bareKind t.desc (.route t.args)
      | 10 => bareKind t.desc (.remoteEoi t.args.vector)
      | _ => .error .unknownKind := by
  unfold decode
  rw [h]
  simp only [zeroField_descriptor, kindField_descriptor, spaceField_descriptor, wcodeField_descriptor,
    offsetField_descriptor, plainKind, ne_eq, not_true_eq_false, if_false]
  all_goals rfl

/-- A 32-bit LAPIC read of a listed register (R72). -/
theorem decode_lapicRead {t : Tx} {r : LapicReg} (h : t.desc = lapicRead32 (Machine.lapicOffset r)) :
    decode t = .ok (lapicReadOf r) := by
  rw [decode_descriptor h]
  simp [decodeRead]

/-- A 32-bit LAPIC write of a listed register (R72). -/
theorem decode_lapicWrite {t : Tx} {r : LapicReg} (h : t.desc = lapicWrite32 (Machine.lapicOffset r)) :
    decode t = .ok (lapicWriteOf (t.data.extractLsb' 0 32) t.now r) := by
  rw [decode_descriptor h]
  simp [decodeWrite]

/-- A kind that uses no field of the descriptor but its own (R68). -/
theorem bareKind_descriptor {t : Tx} {kind : BitVec 4} (i : Instr) (h : t.desc = descriptor kind 0#2 0#2 0#20) :
    bareKind t.desc i = .ok i := by
  simp [bareKind, plainKind, h]

/-- The low bits of a widened operand are the operand. -/
theorem extractLsb'_zeroExtend {n : Nat} (hn : n ≤ 64) (d : BitVec n) : (d.zeroExtend 64).extractLsb' 0 n = d := by
  apply BitVec.eq_of_getLsbD_eq
  intro i hi
  have h : i < 64 := by omega
  simp [hi, h]

/-- A 32-bit LAPIC read at an offset that R72 does not list. -/
theorem decodeRead_lapicUnlisted {off : Offset} (h : Machine.lapicRegAt off = none) :
    decodeRead 0#2 2#2 off = .ok (.r32LapicUnlisted off) := by
  simp [decodeRead, h]

/-- The write. -/
theorem decodeWrite_lapicUnlisted {off : Offset} {data : BitVec 64} {now : Nat} (h : Machine.lapicRegAt off = none) :
    decodeWrite 0#2 2#2 off data now = .ok (.w32LapicUnlisted off (data.extractLsb' 0 32)) := by
  simp [decodeWrite, h]

/-- A 32-bit IOAPIC read at an offset that R74 does not list. -/
theorem decodeRead_ioapicUnlisted {off : Offset} (h : ioapicUnlisted off = true) :
    decodeRead 1#2 2#2 off = .ok (.r32IoapicUnlisted off) := by
  simp [ioapicUnlisted] at h
  simp [decodeRead, h]

/-- The write. -/
theorem decodeWrite_ioapicUnlisted {off : Offset} {data : BitVec 64} {now : Nat} (h : ioapicUnlisted off = true) :
    decodeWrite 1#2 2#2 off data now = .ok (.w32IoapicUnlisted off (data.extractLsb' 0 32)) := by
  simp [ioapicUnlisted] at h
  simp [decodeWrite, h]

/-- The register map names no register at an unlisted offset (R72). -/
theorem lapicRegAt_of_unlisted {off : Offset} (h : lapicUnlisted off = true) : Machine.lapicRegAt off = none :=
  Option.isNone_iff_eq_none.1 h

end Sys2Proof
end

