-- ==== Sys2Proof/Laws/State.lean ====
section
/-! SUPPORT. One lemma per field per update, each true by `rfl`, so that no later proof unfolds an update. -/

namespace Sys2Proof.Machine

/-! ## The updates of State -/

@[simp] theorem State.withLapic_lapic (s : State) (l : Lapic) : (s.withLapic l).lapic = l := rfl
@[simp] theorem State.withLapic_ioapic (s : State) (l : Lapic) : (s.withLapic l).ioapic = s.ioapic := rfl
@[simp] theorem State.withLapic_faulted (s : State) (l : Lapic) : (s.withLapic l).faulted = s.faulted := rfl
@[simp] theorem State.withLapic_params (s : State) (l : Lapic) : (s.withLapic l).params = s.params := rfl
@[simp] theorem State.withLapic_draws (s : State) (l : Lapic) : (s.withLapic l).draws = s.draws := rfl
@[simp] theorem State.withLapic_pending (s : State) (l : Lapic) : (s.withLapic l).pending = s.pending := rfl
@[simp] theorem State.withLapic_out (s : State) (l : Lapic) : (s.withLapic l).out = s.out := rfl

@[simp] theorem State.withIoapic_lapic (s : State) (io : IoApic) : (s.withIoapic io).lapic = s.lapic := rfl
@[simp] theorem State.withIoapic_ioapic (s : State) (io : IoApic) : (s.withIoapic io).ioapic = io := rfl
@[simp] theorem State.withIoapic_faulted (s : State) (io : IoApic) : (s.withIoapic io).faulted = s.faulted := rfl
@[simp] theorem State.withIoapic_params (s : State) (io : IoApic) : (s.withIoapic io).params = s.params := rfl
@[simp] theorem State.withIoapic_draws (s : State) (io : IoApic) : (s.withIoapic io).draws = s.draws := rfl
@[simp] theorem State.withIoapic_pending (s : State) (io : IoApic) : (s.withIoapic io).pending = s.pending := rfl
@[simp] theorem State.withIoapic_out (s : State) (io : IoApic) : (s.withIoapic io).out = s.out := rfl

@[simp] theorem State.withFaulted_lapic (s : State) (f : Option Violation) : (s.withFaulted f).lapic = s.lapic := rfl
@[simp] theorem State.withFaulted_ioapic (s : State) (f : Option Violation) : (s.withFaulted f).ioapic = s.ioapic := rfl
@[simp] theorem State.withFaulted_faulted (s : State) (f : Option Violation) : (s.withFaulted f).faulted = f := rfl
@[simp] theorem State.withFaulted_params (s : State) (f : Option Violation) : (s.withFaulted f).params = s.params := rfl
@[simp] theorem State.withFaulted_draws (s : State) (f : Option Violation) : (s.withFaulted f).draws = s.draws := rfl
@[simp] theorem State.withFaulted_pending (s : State) (f : Option Violation) : (s.withFaulted f).pending = s.pending := rfl
@[simp] theorem State.withFaulted_out (s : State) (f : Option Violation) : (s.withFaulted f).out = s.out := rfl

@[simp] theorem State.withDraws_lapic (s : State) (n : Nat) : (s.withDraws n).lapic = s.lapic := rfl
@[simp] theorem State.withDraws_ioapic (s : State) (n : Nat) : (s.withDraws n).ioapic = s.ioapic := rfl
@[simp] theorem State.withDraws_faulted (s : State) (n : Nat) : (s.withDraws n).faulted = s.faulted := rfl
@[simp] theorem State.withDraws_params (s : State) (n : Nat) : (s.withDraws n).params = s.params := rfl
@[simp] theorem State.withDraws_draws (s : State) (n : Nat) : (s.withDraws n).draws = n := rfl
@[simp] theorem State.withDraws_pending (s : State) (n : Nat) : (s.withDraws n).pending = s.pending := rfl
@[simp] theorem State.withDraws_out (s : State) (n : Nat) : (s.withDraws n).out = s.out := rfl

@[simp] theorem State.withPending_lapic (s : State) (q : List Tx) : (s.withPending q).lapic = s.lapic := rfl
@[simp] theorem State.withPending_ioapic (s : State) (q : List Tx) : (s.withPending q).ioapic = s.ioapic := rfl
@[simp] theorem State.withPending_faulted (s : State) (q : List Tx) : (s.withPending q).faulted = s.faulted := rfl
@[simp] theorem State.withPending_params (s : State) (q : List Tx) : (s.withPending q).params = s.params := rfl
@[simp] theorem State.withPending_draws (s : State) (q : List Tx) : (s.withPending q).draws = s.draws := rfl
@[simp] theorem State.withPending_pending (s : State) (q : List Tx) : (s.withPending q).pending = q := rfl
@[simp] theorem State.withPending_out (s : State) (q : List Tx) : (s.withPending q).out = s.out := rfl

@[simp] theorem State.withOut_lapic (s : State) (o : Output) : (s.withOut o).lapic = s.lapic := rfl
@[simp] theorem State.withOut_ioapic (s : State) (o : Output) : (s.withOut o).ioapic = s.ioapic := rfl
@[simp] theorem State.withOut_faulted (s : State) (o : Output) : (s.withOut o).faulted = s.faulted := rfl
@[simp] theorem State.withOut_params (s : State) (o : Output) : (s.withOut o).params = s.params := rfl
@[simp] theorem State.withOut_draws (s : State) (o : Output) : (s.withOut o).draws = s.draws := rfl
@[simp] theorem State.withOut_pending (s : State) (o : Output) : (s.withOut o).pending = s.pending := rfl
@[simp] theorem State.withOut_out (s : State) (o : Output) : (s.withOut o).out = o := rfl

/-! ## The shared one-field operations -/

@[simp] theorem clearOut_lapic (s : State) : (clearOut s).lapic = s.lapic := rfl
@[simp] theorem clearOut_ioapic (s : State) : (clearOut s).ioapic = s.ioapic := rfl
@[simp] theorem clearOut_faulted (s : State) : (clearOut s).faulted = s.faulted := rfl
@[simp] theorem clearOut_params (s : State) : (clearOut s).params = s.params := rfl
@[simp] theorem clearOut_draws (s : State) : (clearOut s).draws = s.draws := rfl
@[simp] theorem clearOut_pending (s : State) : (clearOut s).pending = s.pending := rfl
@[simp] theorem clearOut_out (s : State) : (clearOut s).out = Output.empty := rfl

@[simp] theorem emit_lapic (e : Event) (s : State) : (emit e s).lapic = s.lapic := rfl
@[simp] theorem emit_ioapic (e : Event) (s : State) : (emit e s).ioapic = s.ioapic := rfl
@[simp] theorem emit_faulted (e : Event) (s : State) : (emit e s).faulted = s.faulted := rfl
@[simp] theorem emit_params (e : Event) (s : State) : (emit e s).params = s.params := rfl
@[simp] theorem emit_draws (e : Event) (s : State) : (emit e s).draws = s.draws := rfl
@[simp] theorem emit_pending (e : Event) (s : State) : (emit e s).pending = s.pending := rfl
@[simp] theorem emit_out (e : Event) (s : State) : (emit e s).out = { s.out with events := s.out.events ++ [e] } := rfl

@[simp] theorem respond_lapic (r : Response) (s : State) : (respond r s).lapic = s.lapic := rfl
@[simp] theorem respond_ioapic (r : Response) (s : State) : (respond r s).ioapic = s.ioapic := rfl
@[simp] theorem respond_faulted (r : Response) (s : State) : (respond r s).faulted = s.faulted := rfl
@[simp] theorem respond_params (r : Response) (s : State) : (respond r s).params = s.params := rfl
@[simp] theorem respond_draws (r : Response) (s : State) : (respond r s).draws = s.draws := rfl
@[simp] theorem respond_pending (r : Response) (s : State) : (respond r s).pending = s.pending := rfl
@[simp] theorem respond_out (r : Response) (s : State) : (respond r s).out = { s.out with response := r } := rfl

@[simp] theorem logAnomaly_lapic (c : Anomaly) (s : State) : (logAnomaly c s).lapic = s.lapic := rfl
@[simp] theorem logAnomaly_ioapic (c : Anomaly) (s : State) : (logAnomaly c s).ioapic = s.ioapic := rfl
@[simp] theorem logAnomaly_faulted (c : Anomaly) (s : State) : (logAnomaly c s).faulted = s.faulted := rfl
@[simp] theorem logAnomaly_params (c : Anomaly) (s : State) : (logAnomaly c s).params = s.params := rfl
@[simp] theorem logAnomaly_draws (c : Anomaly) (s : State) : (logAnomaly c s).draws = s.draws := rfl
@[simp] theorem logAnomaly_pending (c : Anomaly) (s : State) : (logAnomaly c s).pending = s.pending := rfl
@[simp] theorem logAnomaly_out (c : Anomaly) (s : State) : (logAnomaly c s).out = { s.out with events := s.out.events ++ [.log c] } := rfl

@[simp] theorem takeDraw_lapic (s : State) : (takeDraw s).lapic = s.lapic := rfl
@[simp] theorem takeDraw_ioapic (s : State) : (takeDraw s).ioapic = s.ioapic := rfl
@[simp] theorem takeDraw_faulted (s : State) : (takeDraw s).faulted = s.faulted := rfl
@[simp] theorem takeDraw_params (s : State) : (takeDraw s).params = s.params := rfl
@[simp] theorem takeDraw_draws (s : State) : (takeDraw s).draws = s.draws + 1 := rfl
@[simp] theorem takeDraw_pending (s : State) : (takeDraw s).pending = s.pending := rfl
@[simp] theorem takeDraw_out (s : State) : (takeDraw s).out = s.out := rfl

@[simp] theorem setConfig_lapic (k : Line) (w : Word) (s : State) : (setConfig k w s).lapic = s.lapic := rfl
@[simp] theorem setConfig_ioapic (k : Line) (w : Word) (s : State) : (setConfig k w s).ioapic = { s.ioapic with cfg := s.ioapic.cfg.set k w } := rfl
@[simp] theorem setConfig_faulted (k : Line) (w : Word) (s : State) : (setConfig k w s).faulted = s.faulted := rfl
@[simp] theorem setConfig_params (k : Line) (w : Word) (s : State) : (setConfig k w s).params = s.params := rfl
@[simp] theorem setConfig_draws (k : Line) (w : Word) (s : State) : (setConfig k w s).draws = s.draws := rfl
@[simp] theorem setConfig_pending (k : Line) (w : Word) (s : State) : (setConfig k w s).pending = s.pending := rfl
@[simp] theorem setConfig_out (k : Line) (w : Word) (s : State) : (setConfig k w s).out = s.out := rfl

@[simp] theorem setDest_lapic (k : Line) (w : Word) (s : State) : (setDest k w s).lapic = s.lapic := rfl
@[simp] theorem setDest_ioapic (k : Line) (w : Word) (s : State) : (setDest k w s).ioapic = { s.ioapic with dest := s.ioapic.dest.set k w } := rfl
@[simp] theorem setDest_faulted (k : Line) (w : Word) (s : State) : (setDest k w s).faulted = s.faulted := rfl
@[simp] theorem setDest_params (k : Line) (w : Word) (s : State) : (setDest k w s).params = s.params := rfl
@[simp] theorem setDest_draws (k : Line) (w : Word) (s : State) : (setDest k w s).draws = s.draws := rfl
@[simp] theorem setDest_pending (k : Line) (w : Word) (s : State) : (setDest k w s).pending = s.pending := rfl
@[simp] theorem setDest_out (k : Line) (w : Word) (s : State) : (setDest k w s).out = s.out := rfl

@[simp] theorem setIoIrr_lapic (b : BitVec 24) (s : State) : (setIoIrr b s).lapic = s.lapic := rfl
@[simp] theorem setIoIrr_ioapic (b : BitVec 24) (s : State) : (setIoIrr b s).ioapic = { s.ioapic with irr := b } := rfl
@[simp] theorem setIoIrr_faulted (b : BitVec 24) (s : State) : (setIoIrr b s).faulted = s.faulted := rfl
@[simp] theorem setIoIrr_params (b : BitVec 24) (s : State) : (setIoIrr b s).params = s.params := rfl
@[simp] theorem setIoIrr_draws (b : BitVec 24) (s : State) : (setIoIrr b s).draws = s.draws := rfl
@[simp] theorem setIoIrr_pending (b : BitVec 24) (s : State) : (setIoIrr b s).pending = s.pending := rfl
@[simp] theorem setIoIrr_out (b : BitVec 24) (s : State) : (setIoIrr b s).out = s.out := rfl

@[simp] theorem setIrqValue_lapic (b : BitVec 24) (s : State) : (setIrqValue b s).lapic = s.lapic := rfl
@[simp] theorem setIrqValue_ioapic (b : BitVec 24) (s : State) : (setIrqValue b s).ioapic = { s.ioapic with irqValue := b } := rfl
@[simp] theorem setIrqValue_faulted (b : BitVec 24) (s : State) : (setIrqValue b s).faulted = s.faulted := rfl
@[simp] theorem setIrqValue_params (b : BitVec 24) (s : State) : (setIrqValue b s).params = s.params := rfl
@[simp] theorem setIrqValue_draws (b : BitVec 24) (s : State) : (setIrqValue b s).draws = s.draws := rfl
@[simp] theorem setIrqValue_pending (b : BitVec 24) (s : State) : (setIrqValue b s).pending = s.pending := rfl
@[simp] theorem setIrqValue_out (b : BitVec 24) (s : State) : (setIrqValue b s).out = s.out := rfl

@[simp] theorem setCurrent_lapic (n : Nat) (s : State) : (setCurrent n s).lapic = { s.lapic with timerCurrent := n } := rfl
@[simp] theorem setCurrent_ioapic (n : Nat) (s : State) : (setCurrent n s).ioapic = s.ioapic := rfl
@[simp] theorem setCurrent_faulted (n : Nat) (s : State) : (setCurrent n s).faulted = s.faulted := rfl
@[simp] theorem setCurrent_params (n : Nat) (s : State) : (setCurrent n s).params = s.params := rfl
@[simp] theorem setCurrent_draws (n : Nat) (s : State) : (setCurrent n s).draws = s.draws := rfl
@[simp] theorem setCurrent_pending (n : Nat) (s : State) : (setCurrent n s).pending = s.pending := rfl
@[simp] theorem setCurrent_out (n : Nat) (s : State) : (setCurrent n s).out = s.out := rfl

@[simp] theorem issueFirst_lapic (t : Tx) (s : State) : (issueFirst t s).lapic = s.lapic := rfl
@[simp] theorem issueFirst_ioapic (t : Tx) (s : State) : (issueFirst t s).ioapic = s.ioapic := rfl
@[simp] theorem issueFirst_faulted (t : Tx) (s : State) : (issueFirst t s).faulted = s.faulted := rfl
@[simp] theorem issueFirst_params (t : Tx) (s : State) : (issueFirst t s).params = s.params := rfl
@[simp] theorem issueFirst_draws (t : Tx) (s : State) : (issueFirst t s).draws = s.draws := rfl
@[simp] theorem issueFirst_pending (t : Tx) (s : State) : (issueFirst t s).pending = t :: s.pending := rfl
@[simp] theorem issueFirst_out (t : Tx) (s : State) : (issueFirst t s).out = s.out := rfl

@[simp] theorem idle_lapic (s : State) : (idle s).lapic = s.lapic := rfl
@[simp] theorem idle_ioapic (s : State) : (idle s).ioapic = s.ioapic := rfl
@[simp] theorem idle_faulted (s : State) : (idle s).faulted = s.faulted := rfl
@[simp] theorem idle_params (s : State) : (idle s).params = s.params := rfl
@[simp] theorem idle_draws (s : State) : (idle s).draws = s.draws := rfl
@[simp] theorem idle_pending (s : State) : (idle s).pending = s.pending := rfl
@[simp] theorem idle_out (s : State) : (idle s).out = Output.empty := rfl

@[simp] theorem resetState_lapic (now : Nat) (s : State) : (resetState now s).lapic = lapicReset now := rfl
@[simp] theorem resetState_ioapic (now : Nat) (s : State) : (resetState now s).ioapic = ioapicReset := rfl
@[simp] theorem resetState_faulted (now : Nat) (s : State) : (resetState now s).faulted = none := rfl
@[simp] theorem resetState_params (now : Nat) (s : State) : (resetState now s).params = s.params := rfl
@[simp] theorem resetState_draws (now : Nat) (s : State) : (resetState now s).draws = s.draws := rfl
@[simp] theorem resetState_pending (now : Nat) (s : State) : (resetState now s).pending = s.pending := rfl
@[simp] theorem resetState_out (now : Nat) (s : State) : (resetState now s).out = Output.empty := rfl

@[simp] theorem restoreState_lapic (r : Record) (s : State) : (restoreState r s).lapic = r.lapic := rfl
@[simp] theorem restoreState_ioapic (r : Record) (s : State) : (restoreState r s).ioapic = r.ioapic := rfl
@[simp] theorem restoreState_faulted (r : Record) (s : State) : (restoreState r s).faulted = none := rfl
@[simp] theorem restoreState_params (r : Record) (s : State) : (restoreState r s).params = s.params := rfl
@[simp] theorem restoreState_draws (r : Record) (s : State) : (restoreState r s).draws = s.draws := rfl
@[simp] theorem restoreState_pending (r : Record) (s : State) : (restoreState r s).pending = s.pending := rfl
@[simp] theorem restoreState_out (r : Record) (s : State) : (restoreState r s).out = Output.empty := rfl

end Sys2Proof.Machine
end

