-- ==== Sys2Proof/Laws/Ops.lean ====
section
/-! SUPPORT. What each shared operation of Machine/Ops.lean can do, said once; later proofs cite these lemmas and do not
unfold the operations. -/

namespace Sys2Proof.Machine

/-! ## The frame of a transaction -/

/-- A transaction that has a next state ran on a block that was not FAULTED (R182). -/
theorem transact_eq_next_iff {f : State → State} {s t : State} :
    transact f s = .next t ↔ s.faulted = none ∧ t = f (clearOut s) := by
  unfold transact
  cases h : s.faulted <;> simp [eq_comm]

/-- On a block that is not FAULTED a transaction has a next state (R60). -/
theorem transact_running {f : State → State} {s : State} (h : s.faulted = none) :
    transact f s = .next (f (clearOut s)) := transact_eq_next_iff.2 ⟨h, rfl⟩

/-- A FAULTED block refuses the transaction (R182). -/
theorem transact_faulted {f : State → State} {s : State} {c : Violation} (h : s.faulted = some c) :
    transact f s = .refused .blockFaulted := by simp [transact, h]

/-- The next statement runs when no violation has ended the transaction. -/
@[simp] theorem andThen_running {s : State} {f : State → State} (h : s.faulted = none) : andThen s f = f s := by
  simp [andThen, h]

/-- A violation that faulted the block ends the transaction (R182). -/
@[simp] theorem andThen_faulted {s : State} {f : State → State} {c : Violation} (h : s.faulted = some c) :
    andThen s f = s := by
  simp [andThen, h]

/-! ## Violations and reads -/

theorem raiseViolation_diagnostic {code : Violation} {f : State → State} {s : State}
    (h : s.params.diagnostic = true) : raiseViolation code f s = s.withFaulted (some code) := by
  simp [raiseViolation, h]

theorem raiseViolation_production {code : Violation} {f : State → State} {s : State}
    (h : s.params.diagnostic = false) : raiseViolation code f s = f s := by
  simp [raiseViolation, h]

/-- A violating read under `DIAGNOSTIC` has no data (R182). -/
theorem violatingRead_diagnostic {code : Violation} {s : State} (h : s.params.diagnostic = true) :
    violatingRead code s = (s.withFaulted (some code), none) := by
  simp [violatingRead, raiseViolation, h]

/-- A violating read in production returns `draw32()` (R12). -/
theorem violatingRead_production {code : Violation} {s : State} (h : s.params.diagnostic = false) :
    violatingRead code s = (takeDraw s, some (Config.draw32 s.draws)) := by
  simp [violatingRead, raiseViolation, h]

@[simp] theorem finishRead_readsAs (f : Word → Response) (w : Word) (s : State) :
    finishRead f (readsAs w s) = respond (f w) s := rfl

/-! ## The arbiter -/

theorem blockedByIsr_eq_false_iff (isr : Bits256) (v : Vec) :
    blockedByIsr isr v = false ↔ ∀ u : Vec, getBit isr u = true → u < v := by
  unfold blockedByIsr
  cases h : highest isr with
  | none =>
    have := (highest_eq_none_iff isr).1 h
    simp [this]
  | some m =>
    obtain ⟨h1, h2⟩ := (highest_eq_some_iff isr m).1 h
    simp only [decide_eq_false_iff_not, BitVec.not_le]
    refine ⟨fun hm u hu => ?_, fun hall => hall m h1⟩
    have := h2 u hu
    rw [BitVec.lt_def] at hm ⊢
    rw [BitVec.le_def] at this
    omega

/-- R127: what the arbiter gives. -/
theorem eligible_eq_some_iff (l : Lapic) (v : Vec) :
    eligible l = some v ↔
      getBit l.irr v = true ∧ (∀ u : Vec, getBit l.irr u = true → u ≤ v) ∧
        (∀ u : Vec, getBit l.isr u = true → u < v) ∧ priorityClass l.tpr < priorityClass v := by
  rw [← blockedByIsr_eq_false_iff]
  unfold eligible
  cases h : highest l.irr with
  | none =>
    have := (highest_eq_none_iff _).1 h
    simp [this]
  | some m =>
    have hm := (highest_eq_some_iff _ _).1 h
    have key : ∀ w : Vec, (getBit l.irr w = true ∧ ∀ u : Vec, getBit l.irr u = true → u ≤ w) ↔ m = w := by
      intro w
      rw [← highest_eq_some_iff, h, Option.some.injEq]
    constructor
    · intro he
      simp only at he
      split at he
      · cases he
      · split at he
        · cases he
        · rename_i h1 h2
          obtain rfl : m = v := by simpa using he
          exact ⟨hm.1, hm.2, by simpa using h1, by simpa using h2⟩
    · rintro ⟨h1, h2, h3, h4⟩
      obtain rfl := (key v).1 ⟨h1, h2⟩
      simp [h3, BitVec.not_le.2 h4]

/-- `check_vector()` with nothing eligible (R128). -/
theorem checkVector_of_none {s : State} (h : eligible s.lapic = none) : checkVector s = s := by
  simp [checkVector, h]

/-- `check_vector()` with a vector eligible (R128). -/
theorem checkVector_of_some {s : State} {v : Vec} (h : eligible s.lapic = some v) :
    checkVector s = emit .notify s := by
  simp [checkVector, h]

/-- `check_vector()` changes no state: only the events (R128). -/
theorem checkVector_eq (s : State) : ∃ es, checkVector s = s.withOut { s.out with events := s.out.events ++ es } ∧
    (intr s = true → Event.notify ∈ es) := by
  cases h : eligible s.lapic with
  | none => exact ⟨[], by simp [checkVector_of_none h, State.withOut], by simp [intr, h]⟩
  | some v => exact ⟨[.notify], by simp [checkVector_of_some h, emit], by simp⟩

@[simp] theorem checkVector_lapic (s : State) : (checkVector s).lapic = s.lapic := by
  obtain ⟨es, h, _⟩ := checkVector_eq s; simp [h]
@[simp] theorem checkVector_ioapic (s : State) : (checkVector s).ioapic = s.ioapic := by
  obtain ⟨es, h, _⟩ := checkVector_eq s; simp [h]
@[simp] theorem checkVector_faulted (s : State) : (checkVector s).faulted = s.faulted := by
  obtain ⟨es, h, _⟩ := checkVector_eq s; simp [h]
@[simp] theorem checkVector_params (s : State) : (checkVector s).params = s.params := by
  obtain ⟨es, h, _⟩ := checkVector_eq s; simp [h]
@[simp] theorem checkVector_draws (s : State) : (checkVector s).draws = s.draws := by
  obtain ⟨es, h, _⟩ := checkVector_eq s; simp [h]
@[simp] theorem checkVector_pending (s : State) : (checkVector s).pending = s.pending := by
  obtain ⟨es, h, _⟩ := checkVector_eq s; simp [h]

/-- R78: the vectors that may be delivered. -/
theorem validVector_iff (v : Vec) : validVector v = true ↔ 0x10 ≤ v.toNat ∧ v.toNat ≤ 0xFE := by
  have hv := v.isLt
  simp only [validVector, Bool.and_eq_true, decide_eq_true_eq, BitVec.le_def, ne_eq, ← BitVec.toNat_inj]
  simp only [BitVec.toNat_ofNat]
  omega

/-! ## Delivery -/

/-- Everything `deliver` can do (R125): a no-op, one of two violations, a coalesced delivery, or an accepted one. -/
theorem deliver_cases (v : Vec) (mode : BitVec 3) (isLevel : Bool) (s : State) :
    ((mode = 4#3 ∨ mode = 5#3) ∧ deliver v mode isLevel s = s) ∨
    ((mode = 2#3 ∨ mode = 3#3 ∨ mode = 6#3 ∨ mode = 7#3) ∧
      deliver v mode isLevel s = raiseViolation .a4BadDeliveryMode id s) ∨
    ((mode = 0#3 ∨ mode = 1#3) ∧ validVector v = false ∧
      deliver v mode isLevel s = raiseViolation .a3BadVector id s) ∨
    ((mode = 0#3 ∨ mode = 1#3) ∧ validVector v = true ∧ getBit s.lapic.irr v = true ∧
      deliver v mode isLevel s = logAnomaly .b3Coalesced s) ∨
    ((mode = 0#3 ∨ mode = 1#3) ∧ validVector v = true ∧ getBit s.lapic.irr v = false ∧
      deliver v mode isLevel s = checkVector (s.withLapic (acceptVector s.lapic v isLevel))) := by
  have hm : ∀ m : BitVec 3, m = 0#3 ∨ m = 1#3 ∨ m = 2#3 ∨ m = 3#3 ∨ m = 4#3 ∨ m = 5#3 ∨ m = 6#3 ∨ m = 7#3 := by decide
  rcases hm mode with rfl | rfl | rfl | rfl | rfl | rfl | rfl | rfl <;> simp [deliver] <;>
    cases validVector v <;> cases getBit s.lapic.irr v <;> simp

/-- What a delivery may do to a state, whichever path it takes: IRR grows, by valid vectors only; TMR changes at a
vector only as IRR gains it (R137); every other LAPIC field, the parameters, the draws, the queue and the response
stand; events are appended; a vector that becomes eligible is notified; and only `DIAGNOSTIC` faults the block. It
says nothing of the IOAPIC. -/
structure DeliveryStep (s t : State) : Prop where
  lapic : t.lapic = { s.lapic with irr := t.lapic.irr, tmr := t.lapic.tmr }
  params : t.params = s.params
  draws : t.draws = s.draws
  pending : t.pending = s.pending
  response : t.out.response = s.out.response
  events : ∃ es, t.out.events = s.out.events ++ es
  irr_mono : ∀ v, getBit s.lapic.irr v = true → getBit t.lapic.irr v = true
  irr_new : ∀ v, getBit t.lapic.irr v = true → getBit s.lapic.irr v = true ∨ validVector v = true
  tmr : ∀ v, getBit t.lapic.tmr v = getBit s.lapic.tmr v ∨
    (getBit s.lapic.irr v = false ∧ getBit t.lapic.irr v = true)
  notified : intr t = true → intr s = true ∨ Event.notify ∈ t.out.events
  faulted : t.faulted = s.faulted ∨ (s.params.diagnostic = true ∧ t.faulted ≠ none)

theorem DeliveryStep.refl (s : State) : DeliveryStep s s :=
  ⟨rfl, rfl, rfl, rfl, rfl, ⟨[], by simp⟩, fun _ h => h, fun _ h => .inl h, fun _ => .inl rfl, fun h => .inl h, .inl rfl⟩

theorem DeliveryStep.trans {s t u : State} (h₁ : DeliveryStep s t) (h₂ : DeliveryStep t u) : DeliveryStep s u where
  lapic := by rw [h₂.lapic, h₁.lapic]
  params := h₂.params.trans h₁.params
  draws := h₂.draws.trans h₁.draws
  pending := h₂.pending.trans h₁.pending
  response := h₂.response.trans h₁.response
  events := by
    obtain ⟨e₁, h₁'⟩ := h₁.events
    obtain ⟨e₂, h₂'⟩ := h₂.events
    exact ⟨e₁ ++ e₂, by rw [h₂', h₁', List.append_assoc]⟩
  irr_mono := fun v h => h₂.irr_mono v (h₁.irr_mono v h)
  irr_new := fun v h => (h₂.irr_new v h).elim (h₁.irr_new v) .inr
  tmr := fun v => by
    rcases h₂.tmr v with h | ⟨h, h'⟩
    · rw [h]; exact (h₁.tmr v).imp_right fun ⟨a, b⟩ => ⟨a, h₂.irr_mono v b⟩
    · refine .inr ⟨Bool.eq_false_iff.2 fun ha => ?_, h'⟩
      rw [h₁.irr_mono v ha] at h; cases h
  notified := fun h => (h₂.notified h).elim
    (fun h' => (h₁.notified h').imp_right fun hm => by
      obtain ⟨es, he⟩ := h₂.events
      rw [he]; exact List.mem_append_left _ hm) .inr
  faulted := by
    rcases h₂.faulted with h | ⟨hd, h⟩
    · rw [h]; exact h₁.faulted
    · exact .inr ⟨by rw [← h₁.params]; exact hd, h⟩

/-- An update of the IOAPIC alone is a delivery step. -/
theorem deliveryStep_withIoapic (s : State) (io : IoApic) : DeliveryStep s (s.withIoapic io) :=
  ⟨rfl, rfl, rfl, rfl, rfl, ⟨[], by simp⟩, fun _ h => h, fun _ h => .inl h, fun _ => .inl rfl, fun h => .inl h, .inl rfl⟩

theorem deliveryStep_violation (s : State) (c : Violation) : DeliveryStep s (raiseViolation c id s) := by
  cases h : s.params.diagnostic with
  | false => rw [raiseViolation_production h]; exact .refl s
  | true =>
    rw [raiseViolation_diagnostic h]
    exact ⟨rfl, rfl, rfl, rfl, rfl, ⟨[], by simp⟩, fun _ h => h, fun _ h => .inl h, fun _ => .inl rfl, fun h => .inl h,
      .inr ⟨h, by simp⟩⟩

/-- R125: `deliver` is a delivery step. -/
theorem deliver_step (v : Vec) (mode : BitVec 3) (isLevel : Bool) (s : State) :
    DeliveryStep s (deliver v mode isLevel s) := by
  rcases deliver_cases v mode isLevel s with ⟨_, h⟩ | ⟨_, h⟩ | ⟨_, _, h⟩ | ⟨_, _, _, h⟩ | ⟨_, hv, hi, h⟩ <;> rw [h]
  · exact .refl s
  · exact deliveryStep_violation s _
  · exact deliveryStep_violation s _
  · exact ⟨rfl, rfl, rfl, rfl, rfl, ⟨_, rfl⟩, fun _ h => h, fun _ h => .inl h, fun _ => .inl rfl, fun h => .inl h, .inl rfl⟩
  · obtain ⟨es, he, hn⟩ := checkVector_eq (s.withLapic (acceptVector s.lapic v isLevel))
    rw [he]
    refine ⟨rfl, rfl, rfl, rfl, rfl, ⟨es, rfl⟩, ?_, ?_, ?_, ?_, .inl rfl⟩
    · intro u hu; simp [acceptVector, hu]
    · intro u hu
      simp only [State.withOut_lapic, State.withLapic_lapic, acceptVector, getBit_setBit, Bool.or_eq_true,
        decide_eq_true_eq] at hu
      rcases hu with rfl | hu
      · exact .inr hv
      · exact .inl hu
    · intro u
      by_cases hu : u = v
      · subst hu; exact .inr ⟨hi, by simp [acceptVector]⟩
      · left
        simp only [State.withOut_lapic, State.withLapic_lapic, acceptVector]
        split <;> simp [hu]
    · intro ht
      refine .inr (List.mem_append_right _ (hn ?_))
      simpa [intr] using ht

/-- R126. -/
theorem route_step (a : RouteArgs) (s : State) : DeliveryStep s (route a s) := deliver_step _ _ _ s

/-- `deliver` leaves the IOAPIC alone. -/
@[simp] theorem deliver_ioapic (v : Vec) (mode : BitVec 3) (isLevel : Bool) (s : State) :
    (deliver v mode isLevel s).ioapic = s.ioapic := by
  rcases deliver_cases v mode isLevel s with ⟨_, h⟩ | ⟨_, h⟩ | ⟨_, _, h⟩ | ⟨_, _, _, h⟩ | ⟨_, _, _, h⟩ <;> rw [h] <;>
    simp [raiseViolation] <;> split <;> simp

@[simp] theorem route_ioapic (a : RouteArgs) (s : State) : (route a s).ioapic = s.ioapic := deliver_ioapic _ _ _ s

/-- A violation whose production fallback is a no-op leaves the IOAPIC alone. -/
@[simp] theorem raiseViolation_id_ioapic (c : Violation) (s : State) : (raiseViolation c id s).ioapic = s.ioapic := by
  unfold raiseViolation; split <;> rfl

end Sys2Proof.Machine
end

