-- ==== Sys2Proof/Laws/Frames.lean ====
section
/-! SUPPORT. What the IOAPIC's line operations (spec/44_ioapic.md R158 to R163) can do to a state. -/

namespace Sys2Proof.Machine

/-! ## The entry accessors under each update -/

@[simp] theorem configOf_withCfg (io : IoApic) (k j : Line) (w : Word) :
    configOf { io with cfg := io.cfg.set k w } j = if j = k then w else configOf io j := by
  simp only [configOf, Fin.getElem_fin, Vector.getElem_set, Fin.ext_iff, eq_comm]

@[simp] theorem destOf_withDest (io : IoApic) (k j : Line) (w : Word) :
    destOf { io with dest := io.dest.set k w } j = if j = k then w else destOf io j := by
  simp only [destOf, Fin.getElem_fin, Vector.getElem_set, Fin.ext_iff, eq_comm]

@[simp] theorem configOf_withDest (io : IoApic) (d : Vector Word 24) (j : Line) :
    configOf { io with dest := d } j = configOf io j := rfl
@[simp] theorem configOf_withIrr (io : IoApic) (b : BitVec 24) (j : Line) :
    configOf { io with irr := b } j = configOf io j := rfl
@[simp] theorem configOf_withIrqValue (io : IoApic) (b : BitVec 24) (j : Line) :
    configOf { io with irqValue := b } j = configOf io j := rfl
@[simp] theorem configOf_withIoregsel (io : IoApic) (b : BitVec 8) (j : Line) :
    configOf { io with ioregsel := b } j = configOf io j := rfl
@[simp] theorem configOf_withId (io : IoApic) (b : BitVec 4) (j : Line) :
    configOf { io with id := b } j = configOf io j := rfl
@[simp] theorem destOf_withCfg (io : IoApic) (c : Vector Word 24) (j : Line) :
    destOf { io with cfg := c } j = destOf io j := rfl
@[simp] theorem destOf_withIrr (io : IoApic) (b : BitVec 24) (j : Line) :
    destOf { io with irr := b } j = destOf io j := rfl
@[simp] theorem destOf_withIrqValue (io : IoApic) (b : BitVec 24) (j : Line) :
    destOf { io with irqValue := b } j = destOf io j := rfl
@[simp] theorem destOf_withIoregsel (io : IoApic) (b : BitVec 8) (j : Line) :
    destOf { io with ioregsel := b } j = destOf io j := rfl
@[simp] theorem destOf_withId (io : IoApic) (b : BitVec 4) (j : Line) :
    destOf { io with id := b } j = destOf io j := rfl

/-- `IO.cfg[j]` after `IO.cfg[k] <- w`. -/
theorem configOf_setConfig (k j : Line) (w : Word) (s : State) :
    configOf (setConfig k w s).ioapic j = if j = k then w else configOf s.ioapic j := by simp

/-! ## What the line operations can do -/

/-- What an operation on line `i` may do to the IOAPIC: of the registers, only entry `i`'s status bits, and of the
lines, only bit `i` of `irr`, which it may clear where the entry is an unmasked edge entry. -/
structure EntryStep (i : Line) (io io' : IoApic) : Prop where
  ioregsel : io'.ioregsel = io.ioregsel
  id : io'.id = io.id
  dest : io'.dest = io.dest
  irqValue : io'.irqValue = io.irqValue
  other : ∀ j : Line, j ≠ i → (configOf io' j) = configOf io j
  bits : ∀ b, b < 32 → b ≠ 12 → b ≠ 14 → ((configOf io' i)).getLsbD b = (configOf io i).getLsbD b
  irr : ∀ j : Line, io'.irr.getLsbD j = io.irr.getLsbD j ∨ (j = i ∧ io'.irr.getLsbD j = false ∧
    (configOf io i).getLsbD 15 = false ∧ (configOf io i).getLsbD 16 = false)

theorem EntryStep.refl (i : Line) (io : IoApic) : EntryStep i io io :=
  ⟨rfl, rfl, rfl, rfl, fun _ _ => rfl, fun _ _ _ _ => rfl, fun _ => .inl rfl⟩

theorem EntryStep.trans {i : Line} {a b c : IoApic} (h₁ : EntryStep i a b) (h₂ : EntryStep i b c) : EntryStep i a c where
  ioregsel := h₂.ioregsel.trans h₁.ioregsel
  id := h₂.id.trans h₁.id
  dest := h₂.dest.trans h₁.dest
  irqValue := h₂.irqValue.trans h₁.irqValue
  other := fun j hj => (h₂.other j hj).trans (h₁.other j hj)
  bits := fun k hk h12 h14 => (h₂.bits k hk h12 h14).trans (h₁.bits k hk h12 h14)
  irr := fun j => by
    rcases h₂.irr j with h | h
    · rw [h]; exact h₁.irr j
    · rw [h₁.bits 15 (by decide) (by decide) (by decide), h₁.bits 16 (by decide) (by decide) (by decide)] at h
      exact .inr h

/-- Storing in entry `i` a word that differs from it in the status bits only. -/
theorem entryStep_setConfig (i : Line) (w : Word) (s : State)
    (h : ∀ b, b < 32 → b ≠ 12 → b ≠ 14 → w.getLsbD b = (configOf s.ioapic i).getLsbD b) :
    EntryStep i s.ioapic (setConfig i w s).ioapic where
  ioregsel := rfl
  id := rfl
  dest := rfl
  irqValue := rfl
  other := fun j hj => by rw [configOf_setConfig, if_neg hj]
  bits := fun b hb h12 h14 => by rw [configOf_setConfig, if_pos rfl]; exact h b hb h12 h14
  irr := fun _ => .inl rfl

/-- Clearing the pending bit of an unmasked edge entry. -/
theorem entryStep_clearPending (i : Line) (s : State) (hl : isLevelField (configOf s.ioapic i) = false)
    (hm : isMasked (configOf s.ioapic i) = false) :
    EntryStep i s.ioapic (setIoIrr (clearLine s.ioapic.irr i) s).ioapic where
  ioregsel := rfl
  id := rfl
  dest := rfl
  irqValue := rfl
  other := fun _ _ => rfl
  bits := fun _ _ _ _ => rfl
  irr := fun j => by
    rw [setIoIrr_ioapic]
    show (clearLine s.ioapic.irr i).getLsbD j = _ ∨ j = i ∧ (clearLine s.ioapic.irr i).getLsbD j = false ∧ _
    rw [getLsbD_clearLine]
    by_cases hj : j = i
    · exact .inr ⟨hj, by simp [hj], hl, hm⟩
    · simp [hj]

/-- The attempt of `check_irq(i)` (R160). -/
theorem attempt_step (i : Line) (cfg : Word) (s : State) :
    DeliveryStep s (attempt i cfg s) ∧ EntryStep i s.ioapic (attempt i cfg s).ioapic ∧
      remoteIrr (configOf (attempt i cfg s).ioapic i) = remoteIrr (configOf s.ioapic i) ∧
      (attempt i cfg s).ioapic.irr = s.ioapic.irr := by
  unfold attempt
  generalize hr : (if modeField cfg = 0#3 ∨ modeField cfg = 1#3 then route (entryArgs cfg (destOf s.ioapic i)) s
    else raiseViolation .a4BadDeliveryMode id s) = r
  have hd : DeliveryStep s r := by
    rw [← hr]; split
    · exact route_step _ s
    · exact deliveryStep_violation s _
  have hio : r.ioapic = s.ioapic := by
    rw [← hr]; split <;> simp
  cases hf : r.faulted with
  | some c => rw [andThen_faulted hf, hio]; exact ⟨hd, .refl _ _, rfl, rfl⟩
  | none =>
    rw [andThen_running hf]
    refine ⟨hd.trans (deliveryStep_withIoapic r _), ?_, ?_, ?_⟩
    · rw [← hio]
      refine entryStep_setConfig i _ r fun b hb h12 _ => ?_
      rw [getLsbD_clearDelivStatus _ _ hb]; simp [h12]
    · rw [configOf_setConfig, if_pos rfl, remoteIrr_clearDelivStatus, hio]
    · rw [setConfig_ioapic, hio]

/-- Everything `check_irq(i)` can do (R160): nothing, where the line is not pending, is masked, or is a level entry in
service; else an attempt, of an edge entry with its pending bit cleared, or of a level entry with remote IRR set. -/
theorem checkIrq_cases (i : Line) (s : State) :
    ((s.ioapic.irr.getLsbD i = false ∨ isMasked (configOf s.ioapic i) = true ∨
        (isLevelField (configOf s.ioapic i) = true ∧ remoteIrr (configOf s.ioapic i) = true)) ∧ checkIrq i s = s) ∨
    (s.ioapic.irr.getLsbD i = true ∧ isMasked (configOf s.ioapic i) = false ∧ isLevelField (configOf s.ioapic i) = false ∧
      checkIrq i s = attempt i (configOf s.ioapic i) (setIoIrr (clearLine s.ioapic.irr i) s)) ∨
    (s.ioapic.irr.getLsbD i = true ∧ isMasked (configOf s.ioapic i) = false ∧ isLevelField (configOf s.ioapic i) = true ∧
      remoteIrr (configOf s.ioapic i) = false ∧
      checkIrq i s = attempt i (configOf s.ioapic i) (setConfig i (setRemoteIrr (configOf s.ioapic i)) s)) := by
  simp only [checkIrq]
  cases s.ioapic.irr.getLsbD i <;> cases isMasked (configOf s.ioapic i) <;> cases isLevelField (configOf s.ioapic i) <;>
    cases remoteIrr (configOf s.ioapic i) <;> simp

/-- R160: what `check_irq(i)` may change; it never clears remote IRR. -/
theorem checkIrq_step (i : Line) (s : State) :
    DeliveryStep s (checkIrq i s) ∧ EntryStep i s.ioapic (checkIrq i s).ioapic ∧
      (remoteIrr (configOf s.ioapic i) = true → remoteIrr (configOf (checkIrq i s).ioapic i) = true) := by
  rcases checkIrq_cases i s with ⟨_, h⟩ | ⟨_, hm, hl, h⟩ | ⟨_, _, _, _, h⟩ <;> rw [h]
  · exact ⟨.refl _, .refl _ _, fun h => h⟩
  · obtain ⟨h1, h2, h3, _⟩ := attempt_step i (configOf s.ioapic i) (setIoIrr (clearLine s.ioapic.irr i) s)
    refine ⟨(deliveryStep_withIoapic s _).trans h1, ?_, fun hr => by rw [h3]; exact hr⟩
    exact (entryStep_clearPending i s hl hm).trans h2
  · obtain ⟨h1, h2, h3, _⟩ := attempt_step i (configOf s.ioapic i) (setConfig i (setRemoteIrr (configOf s.ioapic i)) s)
    refine ⟨(deliveryStep_withIoapic s _).trans h1, EntryStep.trans (entryStep_setConfig i _ s ?_) h2, fun _ => ?_⟩
    · intro b hb _ h14
      rw [getLsbD_setRemoteIrr _ _ hb]; simp [h14]
    · rw [h3, configOf_setConfig, if_pos rfl, remoteIrr_setRemoteIrr]

/-- What releasing the entries of which `p` holds may do to the IOAPIC: of the registers, only the status bits of those
entries; of the lines, only the pending bits of those that are unmasked edge entries, which it may clear. -/
structure ScanStep (p : Word → Prop) (io io' : IoApic) : Prop where
  ioregsel : io'.ioregsel = io.ioregsel
  id : io'.id = io.id
  dest : io'.dest = io.dest
  irqValue : io'.irqValue = io.irqValue
  bits : ∀ (j : Line) (b : Nat), b < 32 → b ≠ 12 → b ≠ 14 → ((configOf io' j)).getLsbD b = (configOf io j).getLsbD b
  irr : ∀ j : Line, io'.irr.getLsbD j = io.irr.getLsbD j ∨ (io'.irr.getLsbD j = false ∧ p (configOf io j) ∧
    (configOf io j).getLsbD 15 = false ∧ (configOf io j).getLsbD 16 = false)
  keeps : ∀ j : Line, ¬ p (configOf io j) → (configOf io' j) = configOf io j

theorem ScanStep.refl (p : Word → Prop) (io : IoApic) : ScanStep p io io :=
  ⟨rfl, rfl, rfl, rfl, fun _ _ _ _ _ => rfl, fun _ => .inl rfl, fun _ _ => rfl⟩

theorem ScanStep.trans {p : Word → Prop} {a b c : IoApic} (h₁ : ScanStep p a b) (h₂ : ScanStep p b c) :
    ScanStep p a c where
  ioregsel := h₂.ioregsel.trans h₁.ioregsel
  id := h₂.id.trans h₁.id
  dest := h₂.dest.trans h₁.dest
  irqValue := h₂.irqValue.trans h₁.irqValue
  bits := fun j b hb h12 h14 => (h₂.bits j b hb h12 h14).trans (h₁.bits j b hb h12 h14)
  irr := fun j => by
    rcases h₂.irr j with h | ⟨h, hp, he⟩
    · rw [h]; exact h₁.irr j
    · rw [h₁.bits j 15 (by decide) (by decide) (by decide), h₁.bits j 16 (by decide) (by decide) (by decide)] at he
      refine .inr ⟨h, Classical.byContradiction fun hn => hn ?_, he⟩
      rw [← h₁.keeps j hn]; exact hp
  keeps := fun j h => by rw [h₂.keeps j (by rw [h₁.keeps j h]; exact h), h₁.keeps j h]

/-- The entries that `remote_eoi(v)` releases (R163). -/
def Released (v : Vec) (cfg : Word) : Prop := vectorField cfg = v ∧ remoteIrr cfg = true

/-- One entry of the scan of `remote_eoi` (R163). -/
theorem releaseEntry_step (v : Vec) (k : Line) (s : State) :
    DeliveryStep s (releaseEntry v k s) ∧ ScanStep (Released v) s.ioapic (releaseEntry v k s).ioapic := by
  unfold releaseEntry
  split
  · rename_i hp
    obtain ⟨h1, h2, _⟩ := checkIrq_step k (setConfig k (clearRemoteIrr (configOf s.ioapic k)) s)
    have h0 : EntryStep k s.ioapic (setConfig k (clearRemoteIrr (configOf s.ioapic k)) s).ioapic :=
      entryStep_setConfig k _ s fun b hb _ h14 => by rw [getLsbD_clearRemoteIrr _ _ hb]; simp [h14]
    have h := h0.trans h2
    refine ⟨(deliveryStep_withIoapic s _).trans h1, h.ioregsel, h.id, h.dest, h.irqValue, ?_, ?_, ?_⟩
    · intro j b hb h12 h14
      by_cases hj : j = k
      · subst hj; exact h.bits b hb h12 h14
      · rw [h.other j hj]
    · intro j
      rcases h.irr j with he | ⟨rfl, he, hc⟩
      · exact .inl he
      · exact .inr ⟨he, hp, hc⟩
    · intro j hj
      by_cases hjk : j = k
      · subst hjk; exact absurd hp hj
      · exact h.other j hjk
  · exact ⟨.refl _, .refl _ _⟩

/-- The induction over the scan, once: a relation that every entry's release satisfies, and that is reflexive and
transitive, holds of `remote_eoi(v)`. -/
theorem remoteEoi_induction {R : State → State → Prop} (v : Vec) (hrefl : ∀ s, R s s)
    (htrans : ∀ {a b c}, R a b → R b c → R a c) (hstep : ∀ k s, R s (releaseEntry v k s)) (s : State) :
    R s (remoteEoi v s) := by
  have hfold : ∀ (ks : List Line) (t : State), R t (ks.foldl (fun u k => andThen u (releaseEntry v k)) t) := by
    intro ks
    induction ks with
    | nil => exact fun t => hrefl t
    | cons k ks ih =>
      intro t
      refine htrans ?_ (ih _)
      show R t (andThen t (releaseEntry v k))
      unfold andThen
      split
      · exact hrefl t
      · exact hstep k t
  exact hfold _ s

/-- R163: what `remote_eoi(v)` may change. -/
theorem remoteEoi_step (v : Vec) (s : State) :
    DeliveryStep s (remoteEoi v s) ∧ ScanStep (Released v) s.ioapic (remoteEoi v s).ioapic :=
  remoteEoi_induction (R := fun a b => DeliveryStep a b ∧ ScanStep (Released v) a.ioapic b.ioapic) v
    (fun _ => ⟨.refl _, .refl _ _⟩) (fun h₁ h₂ => ⟨h₁.1.trans h₂.1, h₁.2.trans h₂.2⟩)
    (releaseEntry_step v) s

end Sys2Proof.Machine
end

