-- ==== Sys2Proof/Laws/Exec.lean ====
section
/-! SUPPORT. Every transaction but RESET and RESTORE is one body run by `transact`: the body of each instruction, and the
one lemma that replaces unfolding `exec`. -/

namespace Sys2Proof.Machine

/-! ## What IOWIN reaches, by the index (R75, R76) -/

theorem iowinRegAt_id {sel : BitVec 8} (h : sel.toNat = 0x00) : iowinRegAt sel = .id := by
  obtain rfl : sel = 0x00#8 := BitVec.eq_of_toNat_eq h
  rfl

theorem iowinRegAt_version {sel : BitVec 8} (h : sel.toNat = 0x01) : iowinRegAt sel = .version := by
  obtain rfl : sel = 0x01#8 := BitVec.eq_of_toNat_eq h
  rfl

theorem iowinRegAt_arbitration {sel : BitVec 8} (h : sel.toNat = 0x02) : iowinRegAt sel = .arbitration := by
  obtain rfl : sel = 0x02#8 := BitVec.eq_of_toNat_eq h
  rfl

/-- An index that is none of 0, 1 and 2. -/
theorem iowinRegAt_of_three_le {sel : BitVec 8} (h : 0x03 ≤ sel.toNat) :
    iowinRegAt sel =
      if h : 0x10 ≤ sel.toNat ∧ sel.toNat ≤ 0x3F then
        if sel.getLsbD 0 then .destination ⟨(sel.toNat - 0x10) / 2, by omega⟩
        else .config ⟨(sel.toNat - 0x10) / 2, by omega⟩
      else .unknown := by
  have n0 : sel ≠ 0x00#8 := by rintro rfl; simp at h
  have n1 : sel ≠ 0x01#8 := by rintro rfl; simp at h
  have n2 : sel ≠ 0x02#8 := by rintro rfl; simp at h
  simp only [iowinRegAt, n0, n1, n2, if_false]

theorem iowinRegAt_config {sel : BitVec 8} {k : Line} (h : sel.toNat = 0x10 + 2 * k.val) :
    iowinRegAt sel = .config k := by
  have hk := k.isLt
  have hb : sel.getLsbD 0 = false := by simp [BitVec.getLsbD, h, Nat.testBit_zero]
  rw [iowinRegAt_of_three_le (by omega), dif_pos (by omega)]
  simp only [hb, Bool.false_eq_true, if_false, IowinReg.config.injEq]
  apply Fin.ext
  show (sel.toNat - 0x10) / 2 = k.val
  omega

theorem iowinRegAt_destination {sel : BitVec 8} {k : Line} (h : sel.toNat = 0x11 + 2 * k.val) :
    iowinRegAt sel = .destination k := by
  have hk := k.isLt
  have hb : sel.getLsbD 0 = true := by simp [BitVec.getLsbD, h, Nat.testBit_zero]
  rw [iowinRegAt_of_three_le (by omega), dif_pos (by omega)]
  simp only [hb, if_true, IowinReg.destination.injEq]
  apply Fin.ext
  show (sel.toNat - 0x10) / 2 = k.val
  omega

theorem iowinRegAt_unknown {sel : BitVec 8}
    (h : (0x03 ≤ sel.toNat ∧ sel.toNat ≤ 0x0F) ∨ 0x40 ≤ sel.toNat) : iowinRegAt sel = .unknown := by
  rw [iowinRegAt_of_three_le (by omega), dif_neg (by omega)]

/-- The index of a selected config word. -/
theorem ioregsel_of_config {sel : BitVec 8} {k : Line} (h : iowinRegAt sel = .config k) :
    sel.toNat = 0x10 + 2 * k.val := by
  by_cases h3 : 0x03 ≤ sel.toNat
  · rw [iowinRegAt_of_three_le h3] at h
    split at h
    · rename_i hr
      cases hb : sel.getLsbD 0 with
      | true => simp [hb] at h
      | false =>
        simp only [hb, Bool.false_eq_true, if_false, IowinReg.config.injEq] at h
        have hv := congrArg Fin.val h
        have h2 : sel.toNat % 2 = 0 := by
          simpa [BitVec.getLsbD, Nat.testBit_zero] using hb
        simp only at hv
        omega
    · cases h
  · have hs : sel = 0x00#8 ∨ sel = 0x01#8 ∨ sel = 0x02#8 := by
      rcases (by omega : sel.toNat = 0 ∨ sel.toNat = 1 ∨ sel.toNat = 2) with e | e | e
      · exact .inl (BitVec.eq_of_toNat_eq e)
      · exact .inr (.inl (BitVec.eq_of_toNat_eq e))
      · exact .inr (.inr (BitVec.eq_of_toNat_eq e))
    rcases hs with rfl | rfl | rfl <;> cases h

/-- The index of a selected destination word. -/
theorem ioregsel_of_destination {sel : BitVec 8} {k : Line} (h : iowinRegAt sel = .destination k) :
    sel.toNat = 0x11 + 2 * k.val := by
  by_cases h3 : 0x03 ≤ sel.toNat
  · rw [iowinRegAt_of_three_le h3] at h
    split at h
    · rename_i hr
      cases hb : sel.getLsbD 0 with
      | false => simp only [hb, Bool.false_eq_true, if_false, reduceCtorEq] at h
      | true =>
        simp only [hb, if_true, IowinReg.destination.injEq] at h
        have hv := congrArg Fin.val h
        have h2 : sel.toNat % 2 = 1 := by
          simpa [BitVec.getLsbD, Nat.testBit_zero] using hb
        simp only at hv
        omega
    · cases h
  · have hs : sel = 0x00#8 ∨ sel = 0x01#8 ∨ sel = 0x02#8 := by
      rcases (by omega : sel.toNat = 0 ∨ sel.toNat = 1 ∨ sel.toNat = 2) with e | e | e
      · exact .inl (BitVec.eq_of_toNat_eq e)
      · exact .inr (.inl (BitVec.eq_of_toNat_eq e))
      · exact .inr (.inr (BitVec.eq_of_toNat_eq e))
    rcases hs with rfl | rfl | rfl <;> cases h

/-! ## Bodies -/

/-- Two bodies that agree on every state are one transaction. -/
theorem transact_congr {f g : State → State} {s : State} (h : ∀ t, f t = g t) : transact f s = transact g s := by
  rw [show f = g from funext h]

/-- What the transaction does to a block that accepts it: a row of an IOWIN register has the body of the IOWIN access it
is a case of (log 9). RESET and RESTORE have no body here (R176, R201). -/
def body : Instr → State → State
  | .r32LapicId => fun t => finishRead .data32 (readLapicReg .id t)
  | .w32LapicId data => fun t => t.withLapic { t.lapic with id := data }
  | .r32LapicVersion => fun t => finishRead .data32 (readLapicReg .version t)
  | .w32LapicVersion _ => violatingWrite .a1BadOffset
  | .r32LapicTpr => fun t => finishRead .data32 (readLapicReg .tpr t)
  | .w32LapicTpr data => fun t => checkVector (t.withLapic { t.lapic with tpr := lowByte data })
  | .r32LapicEoi => fun t => finishRead .data32 (readLapicReg .eoi t)
  | .w32LapicEoi _ => endOfInterrupt
  | .r32LapicLdr => fun t => finishRead .data32 (readLapicReg .ldr t)
  | .w32LapicLdr data => fun t => t.withLapic { t.lapic with ldr := topByteOnly data }
  | .r32LapicDfr => fun t => finishRead .data32 (readLapicReg .dfr t)
  | .w32LapicDfr data => fun t => t.withLapic { t.lapic with dfr := storedDfr data }
  | .r32LapicSvr => fun t => finishRead .data32 (readLapicReg .svr t)
  | .w32LapicSvr data => fun t => t.withLapic { t.lapic with svr := data }
  | .r32LapicIsr j => fun t => finishRead .data32 (readLapicReg (.isr j) t)
  | .w32LapicIsr _ _ => violatingWrite .a1BadOffset
  | .r32LapicTmr j => fun t => finishRead .data32 (readLapicReg (.tmr j) t)
  | .w32LapicTmr _ _ => violatingWrite .a1BadOffset
  | .r32LapicIrr j => fun t => finishRead .data32 (readLapicReg (.irr j) t)
  | .w32LapicIrr _ _ => violatingWrite .a1BadOffset
  | .r32LapicError => fun t => finishRead .data32 (readLapicReg .error t)
  | .w32LapicError _ => fun t => t.withLapic { t.lapic with readError := t.lapic.error, error := 0 }
  | .r32LapicIcrLow => fun t => finishRead .data32 (readLapicReg .icrLow t)
  | .w32LapicIcrLow data => writeIcrLow data
  | .r32LapicIcrHigh => fun t => finishRead .data32 (readLapicReg .icrHigh t)
  | .w32LapicIcrHigh data => fun t => t.withLapic { t.lapic with icr1 := data }
  | .r32LapicLvtTimer => fun t => finishRead .data32 (readLapicReg .lvtTimer t)
  | .w32LapicLvtTimer data => fun t => t.withLapic { t.lapic with lvtTimer := data }
  | .r32LapicLvtPerf => fun t => finishRead .data32 (readLapicReg .lvtPerf t)
  | .w32LapicLvtPerf data => fun t => t.withLapic { t.lapic with lvtPerf := data }
  | .r32LapicLvtInt0 => fun t => finishRead .data32 (readLapicReg .lvtInt0 t)
  | .w32LapicLvtInt0 data => fun t => t.withLapic { t.lapic with lvtInt0 := data }
  | .r32LapicLvtInt1 => fun t => finishRead .data32 (readLapicReg .lvtInt1 t)
  | .w32LapicLvtInt1 data => fun t => t.withLapic { t.lapic with lvtInt1 := data }
  | .r32LapicLvtError => fun t => finishRead .data32 (readLapicReg .lvtError t)
  | .w32LapicLvtError data => fun t => t.withLapic { t.lapic with lvtError := data }
  | .r32LapicTimerInitial => fun t => finishRead .data32 (readLapicReg .timerInitial t)
  | .w32LapicTimerInitial data now => fun t => t.withLapic (armTimer data now t.lapic)
  | .r32LapicTimerCurrent => fun t => finishRead .data32 (readLapicReg .timerCurrent t)
  | .w32LapicTimerCurrent _ => violatingWrite .a1BadOffset
  | .r32LapicTimerDivide => fun t => finishRead .data32 (readLapicReg .timerDivide t)
  | .w32LapicTimerDivide data => fun t => t.withLapic (setDivider data t.lapic)
  | .r32LapicUnlisted _ => fun t => finishRead .data32 (violatingRead .a1BadOffset t)
  | .w32LapicUnlisted _ _ => violatingWrite .a1BadOffset
  | .r8Lapic off => lapicReadByte off
  | .w8Lapic _ _ => violatingWrite .a2BadWidth
  | .r16Lapic _ => badWidthRead draw16
  | .w16Lapic _ _ => violatingWrite .a2BadWidth
  | .r64Lapic _ => fun t => badWidthRead (draw64 t.draws) t
  | .w64Lapic _ _ => violatingWrite .a2BadWidth
  | .r32Ioregsel => fun t => finishRead .data32 (readsAs (t.ioapic.ioregsel.zeroExtend 32) t)
  | .w32Ioregsel data => fun t => t.withIoapic { t.ioapic with ioregsel := lowByte data }
  | .r32Iowin => iowinReadBody
  | .w32Iowin data => iowinWriteBody data
  | .r32IowinId => iowinReadBody
  | .w32IowinId data => iowinWriteBody data
  | .r32IowinVersion => iowinReadBody
  | .r32IowinArbitration => iowinReadBody
  | .w32IowinReadOnly data => iowinWriteBody data
  | .r32IowinRedirection => iowinReadBody
  | .w32IowinConfig data => iowinWriteBody data
  | .w32IowinDestination data => iowinWriteBody data
  | .iowinUnknown none => iowinReadBody
  | .iowinUnknown (some data) => iowinWriteBody data
  | .r32IoapicUnlisted _ => fun t => finishRead .data32 (violatingRead .a7BadIoapicOffset t)
  | .w32IoapicUnlisted _ _ => violatingWrite .a7BadIoapicOffset
  | .r8Ioapic _ => badWidthRead draw8
  | .w8Ioapic _ _ => violatingWrite .a2BadWidth
  | .r16Ioapic _ => badWidthRead draw16
  | .w16Ioapic _ _ => violatingWrite .a2BadWidth
  | .r64Ioapic _ => fun t => badWidthRead (draw64 t.draws) t
  | .w64Ioapic _ _ => violatingWrite .a2BadWidth
  | .raiseLine line => onLine line setIrq
  | .lowerLine line => onLine line clearIrq
  | .ack => acknowledge
  | .tick now => timer now
  | .reset _ => id
  | .restore _ => id
  | .snapshot => fun t => respond (.record (snapshotOf t)) t
  | .route args => route args
  | .remoteEoi vector => remoteEoi vector

/-- The instruction is neither RESET nor RESTORE, the two that a FAULTED block accepts (R182). -/
def Instr.Ordinary : Instr → Prop
  | .reset _ => False
  | .restore _ => False
  | _ => True

/-- An ordinary transaction is its body under `transact`. -/
theorem exec_ordinary (i : Instr) (s : State) (h : Instr.Ordinary i) : exec i s = transact (body i) s := by
  cases i
  case iowinUnknown w =>
    cases w <;> simp only [exec, execIowinUnknown, body] <;> refine transact_congr fun t => ?_ <;>
      cases hs : selected t <;> simp [iowinReadBody, iowinWriteBody, hs, readIowin, writeIowin]
  case r32IowinId | w32IowinId | r32IowinVersion | r32IowinArbitration | w32IowinReadOnly | r32IowinRedirection |
      w32IowinConfig | w32IowinDestination =>
    simp only [exec, execR32IowinId, execW32IowinId, execR32IowinVersion, execR32IowinArbitration,
      execW32IowinReadOnly, execR32IowinRedirection, execW32IowinConfig, execW32IowinDestination, body]
    refine transact_congr fun t => ?_
    cases hs : selected t <;> simp [iowinReadBody, iowinWriteBody, hs, readIowin, writeIowin]
  all_goals first | rfl | exact h.elim

theorem ordinary_of_ne {i : Instr} (h₁ : ∀ n, i ≠ .reset n) (h₂ : ∀ r, i ≠ .restore r) : Instr.Ordinary i := by
  cases i with
  | reset n => exact absurd rfl (h₁ n)
  | restore r => exact absurd rfl (h₂ r)
  | _ => exact trivial

/-- An ordinary transaction that has a next state ran its body on a block that was not FAULTED. -/
theorem exec_ordinary_next {i : Instr} {s t : State} (h : Instr.Ordinary i) (hx : exec i s = .next t) :
    s.faulted = none ∧ t = body i (clearOut s) := by
  rw [exec_ordinary i s h] at hx
  exact transact_eq_next_iff.1 hx

/-- An ordinary transaction on a block that is not FAULTED completes. -/
theorem exec_ordinary_running {i : Instr} {s : State} (h : Instr.Ordinary i) (hs : s.faulted = none) :
    exec i s = .next (body i (clearOut s)) := by
  rw [exec_ordinary i s h, transact_running hs]

end Sys2Proof.Machine
end

