-- ==== Sys2Proof/Laws/PerInstr.lean ====
section
/-! SUPPORT. The per-instruction family OpcodeRow: an instruction's descriptor matches its row of
spec/opcode_table.json. -/

namespace Sys2Proof.Laws.OpcodeRow

/-- The match and mask of the instruction's row, copied from spec/opcode_table.json. -/
def tableRow : Instr → Word × Word
  | .r32LapicId => (0x00002080#32, 0xFFFFFFFF#32)
  | .w32LapicId _ => (0x00002081#32, 0xFFFFFFFF#32)
  | .r32LapicVersion => (0x00003080#32, 0xFFFFFFFF#32)
  | .w32LapicVersion _ => (0x00003081#32, 0xFFFFFFFF#32)
  | .r32LapicTpr => (0x00008080#32, 0xFFFFFFFF#32)
  | .w32LapicTpr _ => (0x00008081#32, 0xFFFFFFFF#32)
  | .r32LapicEoi => (0x0000B080#32, 0xFFFFFFFF#32)
  | .w32LapicEoi _ => (0x0000B081#32, 0xFFFFFFFF#32)
  | .r32LapicLdr => (0x0000D080#32, 0xFFFFFFFF#32)
  | .w32LapicLdr _ => (0x0000D081#32, 0xFFFFFFFF#32)
  | .r32LapicDfr => (0x0000E080#32, 0xFFFFFFFF#32)
  | .w32LapicDfr _ => (0x0000E081#32, 0xFFFFFFFF#32)
  | .r32LapicSvr => (0x0000F080#32, 0xFFFFFFFF#32)
  | .w32LapicSvr _ => (0x0000F081#32, 0xFFFFFFFF#32)
  | .r32LapicIsr _ => (0x00010080#32, 0xFFFF8FFF#32)
  | .w32LapicIsr _ _ => (0x00010081#32, 0xFFFF8FFF#32)
  | .r32LapicTmr _ => (0x00018080#32, 0xFFFF8FFF#32)
  | .w32LapicTmr _ _ => (0x00018081#32, 0xFFFF8FFF#32)
  | .r32LapicIrr _ => (0x00020080#32, 0xFFFF8FFF#32)
  | .w32LapicIrr _ _ => (0x00020081#32, 0xFFFF8FFF#32)
  | .r32LapicError => (0x00028080#32, 0xFFFFFFFF#32)
  | .w32LapicError _ => (0x00028081#32, 0xFFFFFFFF#32)
  | .r32LapicIcrLow => (0x00030080#32, 0xFFFFFFFF#32)
  | .w32LapicIcrLow _ => (0x00030081#32, 0xFFFFFFFF#32)
  | .r32LapicIcrHigh => (0x00031080#32, 0xFFFFFFFF#32)
  | .w32LapicIcrHigh _ => (0x00031081#32, 0xFFFFFFFF#32)
  | .r32LapicLvtTimer => (0x00032080#32, 0xFFFFFFFF#32)
  | .w32LapicLvtTimer _ => (0x00032081#32, 0xFFFFFFFF#32)
  | .r32LapicLvtPerf => (0x00034080#32, 0xFFFFFFFF#32)
  | .w32LapicLvtPerf _ => (0x00034081#32, 0xFFFFFFFF#32)
  | .r32LapicLvtInt0 => (0x00035080#32, 0xFFFFFFFF#32)
  | .w32LapicLvtInt0 _ => (0x00035081#32, 0xFFFFFFFF#32)
  | .r32LapicLvtInt1 => (0x00036080#32, 0xFFFFFFFF#32)
  | .w32LapicLvtInt1 _ => (0x00036081#32, 0xFFFFFFFF#32)
  | .r32LapicLvtError => (0x00037080#32, 0xFFFFFFFF#32)
  | .w32LapicLvtError _ => (0x00037081#32, 0xFFFFFFFF#32)
  | .r32LapicTimerInitial => (0x00038080#32, 0xFFFFFFFF#32)
  | .w32LapicTimerInitial _ _ => (0x00038081#32, 0xFFFFFFFF#32)
  | .r32LapicTimerCurrent => (0x00039080#32, 0xFFFFFFFF#32)
  | .w32LapicTimerCurrent _ => (0x00039081#32, 0xFFFFFFFF#32)
  | .r32LapicTimerDivide => (0x0003E080#32, 0xFFFFFFFF#32)
  | .w32LapicTimerDivide _ => (0x0003E081#32, 0xFFFFFFFF#32)
  | .r32LapicUnlisted _ => (0x00000080#32, 0xF00000FF#32)
  | .w32LapicUnlisted _ _ => (0x00000081#32, 0xF00000FF#32)
  | .r8Lapic _ => (0x00000000#32, 0xF00000FF#32)
  | .w8Lapic _ _ => (0x00000001#32, 0xF00000FF#32)
  | .r16Lapic _ => (0x00000040#32, 0xF00000FF#32)
  | .w16Lapic _ _ => (0x00000041#32, 0xF00000FF#32)
  | .r64Lapic _ => (0x000000C0#32, 0xF00000FF#32)
  | .w64Lapic _ _ => (0x000000C1#32, 0xF00000FF#32)
  | .r32Ioregsel => (0x00000090#32, 0xFFFFFFFF#32)
  | .w32Ioregsel _ => (0x00000091#32, 0xFFFFFFFF#32)
  | .r32Iowin => (0x00001090#32, 0xFFFFFFFF#32)
  | .w32Iowin _ => (0x00001091#32, 0xFFFFFFFF#32)
  | .r32IowinId => (0x00001090#32, 0xFFFFFFFF#32)
  | .w32IowinId _ => (0x00001091#32, 0xFFFFFFFF#32)
  | .r32IowinVersion => (0x00001090#32, 0xFFFFFFFF#32)
  | .r32IowinArbitration => (0x00001090#32, 0xFFFFFFFF#32)
  | .w32IowinReadOnly _ => (0x00001091#32, 0xFFFFFFFF#32)
  | .r32IowinRedirection => (0x00001090#32, 0xFFFFFFFF#32)
  | .w32IowinConfig _ => (0x00001091#32, 0xFFFFFFFF#32)
  | .w32IowinDestination _ => (0x00001091#32, 0xFFFFFFFF#32)
  | .iowinUnknown _ => (0x00001090#32, 0xFFFFFFFE#32)
  | .r32IoapicUnlisted _ => (0x00000090#32, 0xF00000FF#32)
  | .w32IoapicUnlisted _ _ => (0x00000091#32, 0xF00000FF#32)
  | .r8Ioapic _ => (0x00000010#32, 0xF00000FF#32)
  | .w8Ioapic _ _ => (0x00000011#32, 0xF00000FF#32)
  | .r16Ioapic _ => (0x00000050#32, 0xF00000FF#32)
  | .w16Ioapic _ _ => (0x00000051#32, 0xF00000FF#32)
  | .r64Ioapic _ => (0x000000D0#32, 0xF00000FF#32)
  | .w64Ioapic _ _ => (0x000000D1#32, 0xF00000FF#32)
  | .raiseLine _ => (0x00000002#32, 0xF00000FF#32)
  | .lowerLine _ => (0x00000003#32, 0xF00000FF#32)
  | .ack => (0x00000004#32, 0xFFFFFFFF#32)
  | .tick _ => (0x00000005#32, 0xFFFFFFFF#32)
  | .reset _ => (0x00000006#32, 0xFFFFFFFF#32)
  | .restore _ => (0x00000007#32, 0xFFFFFFFF#32)
  | .snapshot => (0x00000008#32, 0xFFFFFFFF#32)
  | .route _ => (0x00000009#32, 0xFFFFFFFF#32)
  | .remoteEoi _ => (0x0000000A#32, 0xFFFFFFFF#32)

/-- The descriptor that spells the instruction, under its row's mask, is its row's match. -/
def Statement (i : Instr) : Prop := (encode i).desc &&& (tableRow i).2 = (tableRow i).1

/-- Masking the word number away from the descriptor of a 32-bit access to a word of ISR. -/
theorem descriptor_word_mask_isrR (j : BitVec 3) :
    lapicRead32 (Machine.lapicOffset (.isr j)) &&& 0xFFFF8FFF#32 = 0x00010080#32 := by
  revert j; decide

/-- The same for the write. -/
theorem descriptor_word_mask_isrW (j : BitVec 3) :
    lapicWrite32 (Machine.lapicOffset (.isr j)) &&& 0xFFFF8FFF#32 = 0x00010081#32 := by
  revert j; decide

/-- Masking the word number away from the descriptor of a 32-bit access to a word of TMR. -/
theorem descriptor_word_mask_tmrR (j : BitVec 3) :
    lapicRead32 (Machine.lapicOffset (.tmr j)) &&& 0xFFFF8FFF#32 = 0x00018080#32 := by
  revert j; decide

/-- The same for the write. -/
theorem descriptor_word_mask_tmrW (j : BitVec 3) :
    lapicWrite32 (Machine.lapicOffset (.tmr j)) &&& 0xFFFF8FFF#32 = 0x00018081#32 := by
  revert j; decide

/-- Masking the word number away from the descriptor of a 32-bit access to a word of IRR. -/
theorem descriptor_word_mask_irrR (j : BitVec 3) :
    lapicRead32 (Machine.lapicOffset (.irr j)) &&& 0xFFFF8FFF#32 = 0x00020080#32 := by
  revert j; decide

/-- The same for the write. -/
theorem descriptor_word_mask_irrW (j : BitVec 3) :
    lapicWrite32 (Machine.lapicOffset (.irr j)) &&& 0xFFFF8FFF#32 = 0x00020081#32 := by
  revert j; decide

theorem r32LapicId : Statement (.r32LapicId) := by
  show lapicRead32 (Machine.lapicOffset .id) &&& 0xFFFFFFFF#32 = 0x00002080#32; decide
theorem w32LapicId (data : Word) : Statement (.w32LapicId data) := by
  show lapicWrite32 (Machine.lapicOffset .id) &&& 0xFFFFFFFF#32 = 0x00002081#32; decide
theorem r32LapicVersion : Statement (.r32LapicVersion) := by
  show lapicRead32 (Machine.lapicOffset .version) &&& 0xFFFFFFFF#32 = 0x00003080#32; decide
theorem w32LapicVersion (data : Word) : Statement (.w32LapicVersion data) := by
  show lapicWrite32 (Machine.lapicOffset .version) &&& 0xFFFFFFFF#32 = 0x00003081#32; decide
theorem r32LapicTpr : Statement (.r32LapicTpr) := by
  show lapicRead32 (Machine.lapicOffset .tpr) &&& 0xFFFFFFFF#32 = 0x00008080#32; decide
theorem w32LapicTpr (data : Word) : Statement (.w32LapicTpr data) := by
  show lapicWrite32 (Machine.lapicOffset .tpr) &&& 0xFFFFFFFF#32 = 0x00008081#32; decide
theorem r32LapicEoi : Statement (.r32LapicEoi) := by
  show lapicRead32 (Machine.lapicOffset .eoi) &&& 0xFFFFFFFF#32 = 0x0000B080#32; decide
theorem w32LapicEoi (data : Word) : Statement (.w32LapicEoi data) := by
  show lapicWrite32 (Machine.lapicOffset .eoi) &&& 0xFFFFFFFF#32 = 0x0000B081#32; decide
theorem r32LapicLdr : Statement (.r32LapicLdr) := by
  show lapicRead32 (Machine.lapicOffset .ldr) &&& 0xFFFFFFFF#32 = 0x0000D080#32; decide
theorem w32LapicLdr (data : Word) : Statement (.w32LapicLdr data) := by
  show lapicWrite32 (Machine.lapicOffset .ldr) &&& 0xFFFFFFFF#32 = 0x0000D081#32; decide
theorem r32LapicDfr : Statement (.r32LapicDfr) := by
  show lapicRead32 (Machine.lapicOffset .dfr) &&& 0xFFFFFFFF#32 = 0x0000E080#32; decide
theorem w32LapicDfr (data : Word) : Statement (.w32LapicDfr data) := by
  show lapicWrite32 (Machine.lapicOffset .dfr) &&& 0xFFFFFFFF#32 = 0x0000E081#32; decide
theorem r32LapicSvr : Statement (.r32LapicSvr) := by
  show lapicRead32 (Machine.lapicOffset .svr) &&& 0xFFFFFFFF#32 = 0x0000F080#32; decide
theorem w32LapicSvr (data : Word) : Statement (.w32LapicSvr data) := by
  show lapicWrite32 (Machine.lapicOffset .svr) &&& 0xFFFFFFFF#32 = 0x0000F081#32; decide
theorem r32LapicIsr (j : BitVec 3) : Statement (.r32LapicIsr j) := descriptor_word_mask_isrR j
theorem w32LapicIsr (j : BitVec 3) (data : Word) : Statement (.w32LapicIsr j data) := descriptor_word_mask_isrW j
theorem r32LapicTmr (j : BitVec 3) : Statement (.r32LapicTmr j) := descriptor_word_mask_tmrR j
theorem w32LapicTmr (j : BitVec 3) (data : Word) : Statement (.w32LapicTmr j data) := descriptor_word_mask_tmrW j
theorem r32LapicIrr (j : BitVec 3) : Statement (.r32LapicIrr j) := descriptor_word_mask_irrR j
theorem w32LapicIrr (j : BitVec 3) (data : Word) : Statement (.w32LapicIrr j data) := descriptor_word_mask_irrW j
theorem r32LapicError : Statement (.r32LapicError) := by
  show lapicRead32 (Machine.lapicOffset .error) &&& 0xFFFFFFFF#32 = 0x00028080#32; decide
theorem w32LapicError (data : Word) : Statement (.w32LapicError data) := by
  show lapicWrite32 (Machine.lapicOffset .error) &&& 0xFFFFFFFF#32 = 0x00028081#32; decide
theorem r32LapicIcrLow : Statement (.r32LapicIcrLow) := by
  show lapicRead32 (Machine.lapicOffset .icrLow) &&& 0xFFFFFFFF#32 = 0x00030080#32; decide
theorem w32LapicIcrLow (data : Word) : Statement (.w32LapicIcrLow data) := by
  show lapicWrite32 (Machine.lapicOffset .icrLow) &&& 0xFFFFFFFF#32 = 0x00030081#32; decide
theorem r32LapicIcrHigh : Statement (.r32LapicIcrHigh) := by
  show lapicRead32 (Machine.lapicOffset .icrHigh) &&& 0xFFFFFFFF#32 = 0x00031080#32; decide
theorem w32LapicIcrHigh (data : Word) : Statement (.w32LapicIcrHigh data) := by
  show lapicWrite32 (Machine.lapicOffset .icrHigh) &&& 0xFFFFFFFF#32 = 0x00031081#32; decide
theorem r32LapicLvtTimer : Statement (.r32LapicLvtTimer) := by
  show lapicRead32 (Machine.lapicOffset .lvtTimer) &&& 0xFFFFFFFF#32 = 0x00032080#32; decide
theorem w32LapicLvtTimer (data : Word) : Statement (.w32LapicLvtTimer data) := by
  show lapicWrite32 (Machine.lapicOffset .lvtTimer) &&& 0xFFFFFFFF#32 = 0x00032081#32; decide
theorem r32LapicLvtPerf : Statement (.r32LapicLvtPerf) := by
  show lapicRead32 (Machine.lapicOffset .lvtPerf) &&& 0xFFFFFFFF#32 = 0x00034080#32; decide
theorem w32LapicLvtPerf (data : Word) : Statement (.w32LapicLvtPerf data) := by
  show lapicWrite32 (Machine.lapicOffset .lvtPerf) &&& 0xFFFFFFFF#32 = 0x00034081#32; decide
theorem r32LapicLvtInt0 : Statement (.r32LapicLvtInt0) := by
  show lapicRead32 (Machine.lapicOffset .lvtInt0) &&& 0xFFFFFFFF#32 = 0x00035080#32; decide
theorem w32LapicLvtInt0 (data : Word) : Statement (.w32LapicLvtInt0 data) := by
  show lapicWrite32 (Machine.lapicOffset .lvtInt0) &&& 0xFFFFFFFF#32 = 0x00035081#32; decide
theorem r32LapicLvtInt1 : Statement (.r32LapicLvtInt1) := by
  show lapicRead32 (Machine.lapicOffset .lvtInt1) &&& 0xFFFFFFFF#32 = 0x00036080#32; decide
theorem w32LapicLvtInt1 (data : Word) : Statement (.w32LapicLvtInt1 data) := by
  show lapicWrite32 (Machine.lapicOffset .lvtInt1) &&& 0xFFFFFFFF#32 = 0x00036081#32; decide
theorem r32LapicLvtError : Statement (.r32LapicLvtError) := by
  show lapicRead32 (Machine.lapicOffset .lvtError) &&& 0xFFFFFFFF#32 = 0x00037080#32; decide
theorem w32LapicLvtError (data : Word) : Statement (.w32LapicLvtError data) := by
  show lapicWrite32 (Machine.lapicOffset .lvtError) &&& 0xFFFFFFFF#32 = 0x00037081#32; decide
theorem r32LapicTimerInitial : Statement (.r32LapicTimerInitial) := by
  show lapicRead32 (Machine.lapicOffset .timerInitial) &&& 0xFFFFFFFF#32 = 0x00038080#32; decide
theorem w32LapicTimerInitial (data : Word) (now : Nat) : Statement (.w32LapicTimerInitial data now) := by
  show lapicWrite32 (Machine.lapicOffset .timerInitial) &&& 0xFFFFFFFF#32 = 0x00038081#32; decide
theorem r32LapicTimerCurrent : Statement (.r32LapicTimerCurrent) := by
  show lapicRead32 (Machine.lapicOffset .timerCurrent) &&& 0xFFFFFFFF#32 = 0x00039080#32; decide
theorem w32LapicTimerCurrent (data : Word) : Statement (.w32LapicTimerCurrent data) := by
  show lapicWrite32 (Machine.lapicOffset .timerCurrent) &&& 0xFFFFFFFF#32 = 0x00039081#32; decide
theorem r32LapicTimerDivide : Statement (.r32LapicTimerDivide) := by
  show lapicRead32 (Machine.lapicOffset .timerDivide) &&& 0xFFFFFFFF#32 = 0x0003E080#32; decide
theorem w32LapicTimerDivide (data : Word) : Statement (.w32LapicTimerDivide data) := by
  show lapicWrite32 (Machine.lapicOffset .timerDivide) &&& 0xFFFFFFFF#32 = 0x0003E081#32; decide
theorem r32LapicUnlisted (off : Offset) : Statement (.r32LapicUnlisted off) := descriptor_and_offsetMask _ _ _ _
theorem w32LapicUnlisted (off : Offset) (data : Word) : Statement (.w32LapicUnlisted off data) := descriptor_and_offsetMask _ _ _ _
theorem r8Lapic (off : Offset) : Statement (.r8Lapic off) := descriptor_and_offsetMask _ _ _ _
theorem w8Lapic (off : Offset) (data : BitVec 8) : Statement (.w8Lapic off data) := descriptor_and_offsetMask _ _ _ _
theorem r16Lapic (off : Offset) : Statement (.r16Lapic off) := descriptor_and_offsetMask _ _ _ _
theorem w16Lapic (off : Offset) (data : BitVec 16) : Statement (.w16Lapic off data) := descriptor_and_offsetMask _ _ _ _
theorem r64Lapic (off : Offset) : Statement (.r64Lapic off) := descriptor_and_offsetMask _ _ _ _
theorem w64Lapic (off : Offset) (data : BitVec 64) : Statement (.w64Lapic off data) := descriptor_and_offsetMask _ _ _ _
theorem r32Ioregsel : Statement (.r32Ioregsel) := by
  show descriptor 0#4 1#2 2#2 Machine.ioregselOffset &&& 0xFFFFFFFF#32 = 0x00000090#32; decide
theorem w32Ioregsel (data : Word) : Statement (.w32Ioregsel data) := by
  show descriptor 1#4 1#2 2#2 Machine.ioregselOffset &&& 0xFFFFFFFF#32 = 0x00000091#32; decide
theorem r32Iowin : Statement (.r32Iowin) := by
  show descriptor 0#4 1#2 2#2 Machine.iowinOffset &&& 0xFFFFFFFF#32 = 0x00001090#32; decide
theorem w32Iowin (data : Word) : Statement (.w32Iowin data) := by
  show descriptor 1#4 1#2 2#2 Machine.iowinOffset &&& 0xFFFFFFFF#32 = 0x00001091#32; decide
theorem r32IowinId : Statement (.r32IowinId) := by
  show descriptor 0#4 1#2 2#2 Machine.iowinOffset &&& 0xFFFFFFFF#32 = 0x00001090#32; decide
theorem w32IowinId (data : Word) : Statement (.w32IowinId data) := by
  show descriptor 1#4 1#2 2#2 Machine.iowinOffset &&& 0xFFFFFFFF#32 = 0x00001091#32; decide
theorem r32IowinVersion : Statement (.r32IowinVersion) := by
  show descriptor 0#4 1#2 2#2 Machine.iowinOffset &&& 0xFFFFFFFF#32 = 0x00001090#32; decide
theorem r32IowinArbitration : Statement (.r32IowinArbitration) := by
  show descriptor 0#4 1#2 2#2 Machine.iowinOffset &&& 0xFFFFFFFF#32 = 0x00001090#32; decide
theorem w32IowinReadOnly (data : Word) : Statement (.w32IowinReadOnly data) := by
  show descriptor 1#4 1#2 2#2 Machine.iowinOffset &&& 0xFFFFFFFF#32 = 0x00001091#32; decide
theorem r32IowinRedirection : Statement (.r32IowinRedirection) := by
  show descriptor 0#4 1#2 2#2 Machine.iowinOffset &&& 0xFFFFFFFF#32 = 0x00001090#32; decide
theorem w32IowinConfig (data : Word) : Statement (.w32IowinConfig data) := by
  show descriptor 1#4 1#2 2#2 Machine.iowinOffset &&& 0xFFFFFFFF#32 = 0x00001091#32; decide
theorem w32IowinDestination (data : Word) : Statement (.w32IowinDestination data) := by
  show descriptor 1#4 1#2 2#2 Machine.iowinOffset &&& 0xFFFFFFFF#32 = 0x00001091#32; decide
theorem iowinUnknown (write : Option Word) : Statement (.iowinUnknown write) := by
  cases write with
  | none => show descriptor 0#4 1#2 2#2 Machine.iowinOffset &&& 0xFFFFFFFE#32 = 0x00001090#32; decide
  | some d => show descriptor 1#4 1#2 2#2 Machine.iowinOffset &&& 0xFFFFFFFE#32 = 0x00001090#32; decide
theorem r32IoapicUnlisted (off : Offset) : Statement (.r32IoapicUnlisted off) := descriptor_and_offsetMask _ _ _ _
theorem w32IoapicUnlisted (off : Offset) (data : Word) : Statement (.w32IoapicUnlisted off data) := descriptor_and_offsetMask _ _ _ _
theorem r8Ioapic (off : Offset) : Statement (.r8Ioapic off) := descriptor_and_offsetMask _ _ _ _
theorem w8Ioapic (off : Offset) (data : BitVec 8) : Statement (.w8Ioapic off data) := descriptor_and_offsetMask _ _ _ _
theorem r16Ioapic (off : Offset) : Statement (.r16Ioapic off) := descriptor_and_offsetMask _ _ _ _
theorem w16Ioapic (off : Offset) (data : BitVec 16) : Statement (.w16Ioapic off data) := descriptor_and_offsetMask _ _ _ _
theorem r64Ioapic (off : Offset) : Statement (.r64Ioapic off) := descriptor_and_offsetMask _ _ _ _
theorem w64Ioapic (off : Offset) (data : BitVec 64) : Statement (.w64Ioapic off data) := descriptor_and_offsetMask _ _ _ _
theorem raiseLine (line : Offset) : Statement (.raiseLine line) := descriptor_and_offsetMask _ _ _ _
theorem lowerLine (line : Offset) : Statement (.lowerLine line) := descriptor_and_offsetMask _ _ _ _
theorem ack : Statement (.ack) := by
  show descriptor 4#4 0#2 0#2 0#20 &&& 0xFFFFFFFF#32 = 0x00000004#32; decide
theorem tick (now : Nat) : Statement (.tick now) := by
  show descriptor 5#4 0#2 0#2 0#20 &&& 0xFFFFFFFF#32 = 0x00000005#32; decide
theorem reset (now : Nat) : Statement (.reset now) := by
  show descriptor 6#4 0#2 0#2 0#20 &&& 0xFFFFFFFF#32 = 0x00000006#32; decide
theorem restore (record : Machine.Record) : Statement (.restore record) := by
  show descriptor 7#4 0#2 0#2 0#20 &&& 0xFFFFFFFF#32 = 0x00000007#32; decide
theorem snapshot : Statement (.snapshot) := by
  show descriptor 8#4 0#2 0#2 0#20 &&& 0xFFFFFFFF#32 = 0x00000008#32; decide
theorem route (args : RouteArgs) : Statement (.route args) := by
  show descriptor 9#4 0#2 0#2 0#20 &&& 0xFFFFFFFF#32 = 0x00000009#32; decide
theorem remoteEoi (vector : Vec) : Statement (.remoteEoi vector) := by
  show descriptor 10#4 0#2 0#2 0#20 &&& 0xFFFFFFFF#32 = 0x0000000A#32; decide

end Sys2Proof.Laws.OpcodeRow
end

