-- ==== Sys2Proof/Laws/Timer.lean ====
section
/-! SUPPORT. What `timer(now)` can do (spec/43_lapic_timer.md R144, R145), said once. -/

namespace Sys2Proof.Machine

/-- The state after `timer(now)` has consumed its steps and before the count is brought back into range (R144). -/
def consumed (now : Nat) (s : State) : State :=
  s.withLapic { s.lapic with nextTick := s.lapic.nextTick + timerSteps s.lapic now * 2 ^ s.lapic.timerShift }

/-- `timer(now)` does something: the timer runs, and a whole step lies between the reference time and `now` (R144). -/
def Advances (now : Nat) (l : Lapic) : Prop :=
  l.timerCurrent ≠ 0 ∧ l.nextTick < now ∧ timerSteps l now ≠ 0

/-- R144: a TICK that does not advance the timer does nothing. -/
theorem timer_idle {now : Nat} {s : State} (h : ¬ Advances now s.lapic) : timer now s = s := by
  unfold timer
  dsimp only
  split
  · rfl
  split
  · rfl
  split
  · rfl
  · rename_i h1 h2 h3
    exact absurd ⟨h1, by omega, h3⟩ h

/-- R144: a TICK that leaves the count above zero. -/
theorem timer_counts {now : Nat} {s : State} (h : Advances now s.lapic)
    (hc : timerSteps s.lapic now < s.lapic.timerCurrent) :
    timer now s = setCurrent (s.lapic.timerCurrent - timerSteps s.lapic now) (consumed now s) := by
  unfold timer
  dsimp only
  rw [if_neg h.1, if_neg (by have := h.2.1; omega), if_neg h.2.2]
  exact if_pos hc

/-- R145: a TICK that takes the count to zero or past it. -/
theorem timer_expires {now : Nat} {s : State} (h : Advances now s.lapic)
    (hc : ¬ timerSteps s.lapic now < s.lapic.timerCurrent) :
    timer now s = expire (timerSteps s.lapic now - s.lapic.timerCurrent) (consumed now s) := by
  unfold timer
  dsimp only
  rw [if_neg h.1, if_neg (by have := h.2.1; omega), if_neg h.2.2]
  exact if_neg hc

/-- R145: everything an expiry can do, by the timer mode. -/
theorem expire_cases (past : Nat) (s : State) :
    (timerModeField s.lapic.lvtTimer = 0#2 ∧ expire past s = fireTimer (setCurrent 0 s)) ∨
    (timerModeField s.lapic.lvtTimer = 1#2 ∧
      expire past s = fireTimer (setCurrent (reloadCount s.lapic.timerInitial.toNat past) s)) ∨
    ((timerModeField s.lapic.lvtTimer = 2#2 ∨ timerModeField s.lapic.lvtTimer = 3#2) ∧
      expire past s = raiseViolation .a8BadTimerMode (setCurrent 0) s) := by
  have hm : ∀ m : BitVec 2, m = 0#2 ∨ m = 1#2 ∨ m = 2#2 ∨ m = 3#2 := by decide
  unfold expire
  rcases hm (timerModeField s.lapic.lvtTimer) with h | h | h | h <;> simp [h]

/-- R145: a periodic reload is never 0 and never above the initial count. -/
theorem reloadCount_bounds {initial past : Nat} (h : initial ≠ 0) :
    1 ≤ reloadCount initial past ∧ reloadCount initial past ≤ initial := by
  have := Nat.mod_lt past (Nat.pos_of_ne_zero h)
  simp only [reloadCount, h, if_false]
  omega

/-- R145: the expiry's delivery. -/
theorem fireTimer_step (s : State) : DeliveryStep s (fireTimer s) := by
  unfold fireTimer
  split
  · exact .refl s
  · exact deliver_step _ _ _ s

@[simp] theorem fireTimer_ioapic (s : State) : (fireTimer s).ioapic = s.ioapic := by
  unfold fireTimer
  split
  · rfl
  · exact deliver_ioapic _ _ _ s

end Sys2Proof.Machine
end

