-- ==== Sys2Proof/Machine/Window.lean ====
section
/-! DEFINITION. The windows and the script: which offset a physical address has in a window (spec/20_memory.md R51, R52),
the descriptor a forwarded access becomes (spec/45_host_interface.md R169), and the pseudo-transactions
(spec/30_encoding.md R89, R90). No step uses these: they say what the agents outside issue. -/

namespace Sys2Proof.Machine

/-- The LAPIC window's offset of a physical address (R51). -/
def lapicWindowOffset (p : Params) (a : Nat) : Option Offset :=
  if p.lapicBase ≤ a ∧ a < p.lapicBase + 0x100000 then some (BitVec.ofNat 20 (a - p.lapicBase)) else none

/-- The IOAPIC window's offset of a physical address (R52). The window's size is open above 0x14 (R9), so the offset
is a number and not a field of the descriptor. -/
def ioapicWindowOffset (p : Params) (a : Nat) : Option Nat :=
  if p.ioapicBase ≤ a ∧ a < p.ioapicBase + p.ioapicWindow then some (a - p.ioapicBase) else none

/-- The descriptor field for an offset of the IOAPIC window (R68). An offset that has more than the field's 20 bits is
carried as 0xFFFFF, which is invalid as it is (R52, R147), so that the access meets the same violation (R58). DESIGN
CHOICE, safe (log 15). -/
def carriedOffset (n : Nat) : Offset := if n < 0x100000 then BitVec.ofNat 20 n else 0xFFFFF#20

/-- The descriptor of the READ (kind 0) or WRITE (kind 1) that a guest access of the LAPIC window at the physical
address `a` becomes, `wcode` its width (R51, R68, R169). -/
def forwardLapic (p : Params) (kind : BitVec 4) (wcode : BitVec 2) (a : Nat) : Option Word :=
  (lapicWindowOffset p a).map (descriptor kind 0#2 wcode)

/-- The descriptor of the READ or WRITE that a guest access of the IOAPIC window becomes (R52, R68, R169). -/
def forwardIoapic (p : Params) (kind : BitVec 4) (wcode : BitVec 2) (a : Nat) : Option Word :=
  (ioapicWindowOffset p a).map fun n => descriptor kind 1#2 wcode (carriedOffset n)

/-- A script line's 32-bit read of the LAPIC window: `R32 LAPIC+off` (R89). -/
def scriptR32Lapic (off : Offset) : Tx := Tx.bare (lapicRead32 off)

/-- `W32 LAPIC+off, data @now` (R89). -/
def scriptW32Lapic (off : Offset) (data : Word) (now : Nat) : Tx :=
  { Tx.withData (lapicWrite32 off) (data.zeroExtend 64) with now := now }

/-- `R32 IOAPIC+off` (R89). -/
def scriptR32Ioapic (off : Offset) : Tx := Tx.bare (descriptor 0#4 1#2 2#2 off)

/-- `W32 IOAPIC+off, data` (R89). -/
def scriptW32Ioapic (off : Offset) (data : Word) : Tx :=
  Tx.withData (descriptor 1#4 1#2 2#2 off) (data.zeroExtend 64)

/-- `EOI` (R90). -/
def pseudoEoi : List Tx := [scriptW32Lapic 0x0B0#20 0#32 0]

/-- `SETTPR v` (R90). -/
def pseudoSetTpr (v : Word) : List Tx := [scriptW32Lapic 0x080#20 v 0]

/-- `SELFIPI v` (R90): shorthand self, fixed, edge. -/
def pseudoSelfIpi (v : Vec) : List Tx := [scriptW32Lapic 0x300#20 (0x00040000#32 ||| v.zeroExtend 32) 0]

/-- `IPI d, lo` (R90). -/
def pseudoIpi (d : BitVec 8) (lo : Word) : List Tx :=
  [scriptW32Lapic 0x310#20 (d.zeroExtend 32 <<< 24) 0, scriptW32Lapic 0x300#20 lo 0]

/-- `IOW sel, v` (R90). -/
def pseudoIow (sel : BitVec 8) (v : Word) : List Tx :=
  [scriptW32Ioapic ioregselOffset (sel.zeroExtend 32), scriptW32Ioapic iowinOffset v]

/-- `IOR sel` (R90). -/
def pseudoIor (sel : BitVec 8) : List Tx :=
  [scriptW32Ioapic ioregselOffset (sel.zeroExtend 32), scriptR32Ioapic iowinOffset]

/-- `REDIR k, cfg` (R90). -/
def pseudoRedir (k : Line) (cfg : Word) : List Tx := pseudoIow (BitVec.ofNat 8 (0x10 + 2 * k.val)) cfg

/-- `REDIRDEST k, d` (R90). -/
def pseudoRedirDest (k : Line) (d : BitVec 8) : List Tx :=
  pseudoIow (BitVec.ofNat 8 (0x11 + 2 * k.val)) (d.zeroExtend 32 <<< 24)

end Sys2Proof.Machine
end

