-- ==== Sys2Proof/Laws/Window.lean ====
section
/-! SUPPORT. What the window decode of spec/20_memory.md R51 and R52 gives, and what a forwarded access decodes to. -/

namespace Sys2Proof.Machine

/-- R51: the LAPIC window is 1 MiB from its base, and the offset is the distance from it. -/
theorem lapicWindowOffset_eq_some_iff (p : Params) (a : Nat) (off : Offset) :
    lapicWindowOffset p a = some off ↔
      p.lapicBase ≤ a ∧ a < p.lapicBase + 0x100000 ∧ off.toNat = a - p.lapicBase := by
  unfold lapicWindowOffset
  have hoff := off.isLt
  split
  · rename_i h
    rw [Option.some.injEq, ← BitVec.toNat_inj, BitVec.toNat_ofNat, Nat.mod_eq_of_lt (by omega)]
    omega
  · simp only [reduceCtorEq, false_iff]; omega

/-- R52: the IOAPIC window is the parameter's size from its base, with no other bound. -/
theorem ioapicWindowOffset_eq_some_iff (p : Params) (a n : Nat) :
    ioapicWindowOffset p a = some n ↔
      p.ioapicBase ≤ a ∧ a < p.ioapicBase + p.ioapicWindow ∧ n = a - p.ioapicBase := by
  unfold ioapicWindowOffset
  split
  · rw [Option.some.injEq]; omega
  · simp only [reduceCtorEq, false_iff]; omega

/-- An offset that the descriptor's field holds is carried as it is. -/
theorem carriedOffset_toNat {n : Nat} (h : n < 0x100000) : (carriedOffset n).toNat = n := by
  rw [carriedOffset, if_pos h, BitVec.toNat_ofNat, Nat.mod_eq_of_lt h]

/-- Carrying an offset makes it neither IOREGSEL nor IOWIN where it was not (R52, log 15). -/
theorem carriedOffset_eq_iff (n : Nat) :
    (carriedOffset n = ioregselOffset ↔ n = 0x00) ∧ (carriedOffset n = iowinOffset ↔ n = 0x10) := by
  by_cases h : n < 0x100000
  · simp only [← BitVec.toNat_inj, carriedOffset_toNat h]
    exact ⟨Iff.rfl, Iff.rfl⟩
  · rw [carriedOffset, if_neg h]
    exact ⟨⟨fun e => absurd e (by decide), by omega⟩, ⟨fun e => absurd e (by decide), by omega⟩⟩

/-- R52, R58, R74: a forwarded 32-bit IOAPIC access at an offset that is neither register's decodes to the access that
meets A7, however large the window is. -/
theorem forwardIoapic_unlisted {p : Params} {a n : Nat} (h : ioapicWindowOffset p a = some n) (h0 : n ≠ 0x00)
    (h1 : n ≠ 0x10) :
    (∀ t : Tx, forwardIoapic p 0#4 2#2 a = some t.desc → decode t = .ok (.r32IoapicUnlisted (carriedOffset n))) ∧
    ∀ t : Tx, forwardIoapic p 1#4 2#2 a = some t.desc →
      decode t = .ok (.w32IoapicUnlisted (carriedOffset n) (t.data.extractLsb' 0 32)) := by
  have e0 : carriedOffset n ≠ ioregselOffset := fun e => h0 ((carriedOffset_eq_iff n).1.1 e)
  have e1 : carriedOffset n ≠ iowinOffset := fun e => h1 ((carriedOffset_eq_iff n).2.1 e)
  constructor <;> intro t ht <;> rw [forwardIoapic, h, Option.map_some, Option.some.injEq] at ht <;>
    rw [decode_descriptor ht.symm]
  · simp [decodeRead, e0, e1]
  · simp [decodeWrite, e0, e1]

end Sys2Proof.Machine
end

