-- ==== Sys2Proof/Tests/Slice0.lean ====
section
/-! SUPPORT. The model's own tests: the well-formedness smoke tests, the decoding of written-out words, one-step tests
whose expected values are those of spec/95_test_vectors.md (or follow from the rule that is named), and for each
obligation with hypotheses a witness that they can be met, its name the obligation's. -/

namespace Sys2Proof.Tests

open Sys2Proof.Machine Sys2Proof.Safety

-- one theorem at a time: in parallel these kernel evaluations exhaust the threads' stacks
set_option Elab.async false

/-! ## Helpers -/

/-- Parameters of a block that a violation faults. -/
def diag : Params where
  diagnostic := true
  lapicVersion := 0x00050014#32
  ioapicVersion := 0x00170020#32
  lapicBase := 0
  ioapicBase := 0
  ioapicWindow := 0x14

/-- Parameters of a block that takes the production fallbacks. -/
def prod : Params := { diag with diagnostic := false }

/-- `S0`: the state right after `RESET @0`. -/
def s0 (p : Params) : State := { State.reset with params := p }

/-- The register in which the vectors `vs` are set. -/
def setOf (vs : List Vec) : Bits256 := vs.foldl setBit 0#256

/-- `S0` with IRR, ISR, TMR and TPR. -/
def vectors (p : Params) (irr isr tmr : List Vec) (tpr : BitVec 8) : State :=
  { s0 p with lapic := { (s0 p).lapic with irr := setOf irr, isr := setOf isr, tmr := setOf tmr, tpr := tpr } }

/-- `s` with entry `k` holding the config word `c`. -/
def entry (k : Line) (c : Word) (s : State) : State :=
  { s with ioapic := { s.ioapic with cfg := s.ioapic.cfg.set k c } }

/-- `s` with IOREGSEL, the asserted lines and the pending lines. -/
def lines (sel : BitVec 8) (value irr : BitVec 24) (s : State) : State :=
  { s with ioapic := { s.ioapic with ioregsel := sel, irqValue := value, irr := irr } }

/-- `s` with the timer's LVT entry, shift, initial and current count and time base. -/
def timing (lvt : Word) (shift : Nat) (initial : Word) (current next : Nat) (s : State) : State :=
  { s with lapic :=
    { s.lapic with lvtTimer := lvt, timerShift := shift, timerInitial := initial, timerCurrent := current, nextTick := next } }

/-- The outcome is a next state, and `p` holds of it. -/
def accepts (o : Host.Outcome State Fault Refusal) (p : State → Bool) : Bool :=
  match o with
  | .next t => p t
  | _ => false

/-- The instruction completes with the response `r` and no event, and leaves both units and `FAULTED` as they were. -/
def reads (i : Instr) (s : State) (r : Response) : Bool :=
  accepts (exec i s) fun t =>
    decide (t.out = { response := r, events := [] }) && decide (t.lapic = s.lapic) && decide (t.ioapic = s.ioapic) &&
      decide (t.faulted = s.faulted)

/-- The instruction faults the block with `c`. -/
def faults (i : Instr) (s : State) (c : Violation) : Bool :=
  accepts (exec i s) fun t => decide (t.faulted = some c)

/-- The instruction completes, with both units and `FAULTED` as they were. -/
def drops (i : Instr) (s : State) : Bool :=
  accepts (exec i s) fun t => decide (t.lapic = s.lapic) && decide (t.ioapic = s.ioapic) && decide (t.faulted = none)

/-! ## Well-formedness: each check refuses a term -/

theorem test_wf_refuses_listed_lapic_read : Instr.wellFormed (.r32LapicUnlisted 0x080#20) = false := by decide
theorem test_wf_refuses_listed_lapic_write : Instr.wellFormed (.w32LapicUnlisted 0x270#20 0#32) = false := by decide
theorem test_wf_refuses_ioregsel_read : Instr.wellFormed (.r32IoapicUnlisted 0x00#20) = false := by decide
theorem test_wf_refuses_iowin_write : Instr.wellFormed (.w32IoapicUnlisted 0x10#20 0#32) = false := by decide
theorem test_wf_accepts_unlisted :
    Instr.wellFormed (.r32LapicUnlisted 0x0A0#20) = true ∧ Instr.wellFormed (.w32IoapicUnlisted 0x14#20 0#32) = true := by
  decide

/-! ## Decoding: every row's word, written out from R68, R72 to R74 and the rows of spec/opcode_table.json -/

theorem test_decode_lapic_reads_1 :
    decodeTableWord 32 0x00002080 = some .r32LapicId ∧
    decodeTableWord 32 0x00003080 = some .r32LapicVersion ∧
    decodeTableWord 32 0x00008080 = some .r32LapicTpr ∧
    decodeTableWord 32 0x0000B080 = some .r32LapicEoi ∧
    decodeTableWord 32 0x0000D080 = some .r32LapicLdr ∧
    decodeTableWord 32 0x0000E080 = some .r32LapicDfr ∧
    decodeTableWord 32 0x0000F080 = some .r32LapicSvr ∧
    decodeTableWord 32 0x00015080 = some (.r32LapicIsr 5#3) ∧
    decodeTableWord 32 0x0001D080 = some (.r32LapicTmr 5#3) ∧
    decodeTableWord 32 0x00025080 = some (.r32LapicIrr 5#3) := by
  decide +kernel

theorem test_decode_lapic_reads_2 :
    decodeTableWord 32 0x00028080 = some .r32LapicError ∧
    decodeTableWord 32 0x00030080 = some .r32LapicIcrLow ∧
    decodeTableWord 32 0x00031080 = some .r32LapicIcrHigh ∧
    decodeTableWord 32 0x00032080 = some .r32LapicLvtTimer ∧
    decodeTableWord 32 0x00034080 = some .r32LapicLvtPerf ∧
    decodeTableWord 32 0x00035080 = some .r32LapicLvtInt0 ∧
    decodeTableWord 32 0x00036080 = some .r32LapicLvtInt1 ∧
    decodeTableWord 32 0x00037080 = some .r32LapicLvtError ∧
    decodeTableWord 32 0x00038080 = some .r32LapicTimerInitial ∧
    decodeTableWord 32 0x00039080 = some .r32LapicTimerCurrent := by
  decide +kernel

theorem test_decode_lapic_reads_3 :
    decodeTableWord 32 0x0003E080 = some .r32LapicTimerDivide ∧
    decodeTableWord 32 0x0003F180 = some (.r32LapicUnlisted 0x3F1#20) := by
  decide +kernel

theorem test_decode_lapic_writes_1 :
    decodeTableWord 32 0x00002081 = some (.w32LapicId 0#32) ∧
    decodeTableWord 32 0x00003081 = some (.w32LapicVersion 0#32) ∧
    decodeTableWord 32 0x00008081 = some (.w32LapicTpr 0#32) ∧
    decodeTableWord 32 0x0000B081 = some (.w32LapicEoi 0#32) ∧
    decodeTableWord 32 0x0000D081 = some (.w32LapicLdr 0#32) ∧
    decodeTableWord 32 0x0000E081 = some (.w32LapicDfr 0#32) ∧
    decodeTableWord 32 0x0000F081 = some (.w32LapicSvr 0#32) ∧
    decodeTableWord 32 0x00015081 = some (.w32LapicIsr 5#3 0#32) ∧
    decodeTableWord 32 0x0001D081 = some (.w32LapicTmr 5#3 0#32) ∧
    decodeTableWord 32 0x00025081 = some (.w32LapicIrr 5#3 0#32) := by
  decide +kernel

theorem test_decode_lapic_writes_2 :
    decodeTableWord 32 0x00028081 = some (.w32LapicError 0#32) ∧
    decodeTableWord 32 0x00030081 = some (.w32LapicIcrLow 0#32) ∧
    decodeTableWord 32 0x00031081 = some (.w32LapicIcrHigh 0#32) ∧
    decodeTableWord 32 0x00032081 = some (.w32LapicLvtTimer 0#32) ∧
    decodeTableWord 32 0x00034081 = some (.w32LapicLvtPerf 0#32) ∧
    decodeTableWord 32 0x00035081 = some (.w32LapicLvtInt0 0#32) ∧
    decodeTableWord 32 0x00036081 = some (.w32LapicLvtInt1 0#32) ∧
    decodeTableWord 32 0x00037081 = some (.w32LapicLvtError 0#32) ∧
    decodeTableWord 32 0x00038081 = some (.w32LapicTimerInitial 0#32 0) ∧
    decodeTableWord 32 0x00039081 = some (.w32LapicTimerCurrent 0#32) := by
  decide +kernel

theorem test_decode_lapic_writes_3 :
    decodeTableWord 32 0x0003E081 = some (.w32LapicTimerDivide 0#32) ∧
    decodeTableWord 32 0x0003F181 = some (.w32LapicUnlisted 0x3F1#20 0#32) := by
  decide +kernel

theorem test_decode_other_widths_1 :
    decodeTableWord 32 0x0003F100 = some (.r8Lapic 0x3F1#20) ∧
    decodeTableWord 32 0x0003F101 = some (.w8Lapic 0x3F1#20 0#8) ∧
    decodeTableWord 32 0x0003F140 = some (.r16Lapic 0x3F1#20) ∧
    decodeTableWord 32 0x0003F141 = some (.w16Lapic 0x3F1#20 0#16) ∧
    decodeTableWord 32 0x0003F1C0 = some (.r64Lapic 0x3F1#20) ∧
    decodeTableWord 32 0x0003F1C1 = some (.w64Lapic 0x3F1#20 0#64) ∧
    decodeTableWord 32 0x0003F110 = some (.r8Ioapic 0x3F1#20) ∧
    decodeTableWord 32 0x0003F111 = some (.w8Ioapic 0x3F1#20 0#8) ∧
    decodeTableWord 32 0x0003F150 = some (.r16Ioapic 0x3F1#20) ∧
    decodeTableWord 32 0x0003F151 = some (.w16Ioapic 0x3F1#20 0#16) := by
  decide +kernel

theorem test_decode_other_widths_2 :
    decodeTableWord 32 0x0003F1D0 = some (.r64Ioapic 0x3F1#20) ∧
    decodeTableWord 32 0x0003F1D1 = some (.w64Ioapic 0x3F1#20 0#64) := by
  decide +kernel

theorem test_decode_ioapic :
    decodeTableWord 32 0x00000090 = some .r32Ioregsel ∧
    decodeTableWord 32 0x00000091 = some (.w32Ioregsel 0#32) ∧
    decodeTableWord 32 0x00001090 = some .r32Iowin ∧
    decodeTableWord 32 0x00001091 = some (.w32Iowin 0#32) ∧
    decodeTableWord 32 0x00002090 = some (.r32IoapicUnlisted 0x020#20) ∧
    decodeTableWord 32 0x00001491 = some (.w32IoapicUnlisted 0x014#20 0#32) := by
  decide +kernel

theorem test_decode_control :
    decodeTableWord 32 0x00001702 = some (.raiseLine 23#20) ∧
    decodeTableWord 32 0x00001703 = some (.lowerLine 23#20) ∧
    decodeTableWord 32 0x00000004 = some .ack ∧
    decodeTableWord 32 0x00000005 = some (.tick 0) ∧
    decodeTableWord 32 0x00000006 = some (.reset 0) ∧
    decodeTableWord 32 0x00000007 = some (.restore Record.zero) ∧
    decodeTableWord 32 0x00000008 = some .snapshot ∧
    decodeTableWord 32 0x00000009 = some (.route RouteArgs.none) ∧
    decodeTableWord 32 0x0000000A = some (.remoteEoi 0#8) := by
  decide +kernel

theorem test_decode_iowin_rows_1 :
    (decodeTableWord 32 0x00001090).map (refineIowin 0x00#8) = some .r32IowinId ∧
    (decodeTableWord 32 0x00001090).map (refineIowin 0x01#8) = some .r32IowinVersion ∧
    (decodeTableWord 32 0x00001090).map (refineIowin 0x02#8) = some .r32IowinArbitration ∧
    (decodeTableWord 32 0x00001090).map (refineIowin 0x10#8) = some .r32IowinRedirection ∧
    (decodeTableWord 32 0x00001091).map (refineIowin 0x00#8) = some (.w32IowinId 0#32) ∧
    (decodeTableWord 32 0x00001091).map (refineIowin 0x01#8) = some (.w32IowinReadOnly 0#32) ∧
    (decodeTableWord 32 0x00001091).map (refineIowin 0x10#8) = some (.w32IowinConfig 0#32) ∧
    (decodeTableWord 32 0x00001091).map (refineIowin 0x11#8) = some (.w32IowinDestination 0#32) ∧
    (decodeTableWord 32 0x00001090).map (refineIowin 0x3F#8) = some .r32IowinRedirection ∧
    (decodeTableWord 32 0x00001090).map (refineIowin 0x40#8) = some (.iowinUnknown none) := by
  decide +kernel

theorem test_decode_iowin_rows_2 :
    (decodeTableWord 32 0x00001091).map (refineIowin 0x03#8) = some (.iowinUnknown (some 0#32)) := by
  decide +kernel

/-- R69: the ill-formed descriptors of spec/95_test_vectors.md 2.12, and two that use a field their kind does not. -/
theorem test_decode_refuses :
    decodeTableWord 32 0x0000000B = none ∧ decodeTableWord 32 0x0000000F = none ∧ decodeTableWord 32 0x000080A0 = none ∧
    decodeTableWord 32 0x10000004 = none ∧ decodeTableWord 32 0x00000104 = none ∧ decodeTableWord 32 0x00000012 = none ∧
    decodeTableWord 32 0x00000083 = none := by
  decide +kernel

/-! ## LAPIC registers (95_test_vectors.md 2.2; R99 to R122) -/

theorem test_r32LapicId_after_reset : reads .r32LapicId (s0 diag) (.data32 0x00000000#32) = true := by
  decide +kernel

theorem test_r32LapicVersion_after_reset : reads .r32LapicVersion (s0 diag) (.data32 0x00050014#32) = true := by
  decide +kernel

theorem test_r32LapicLdr_after_reset : reads .r32LapicLdr (s0 diag) (.data32 0x00000000#32) = true := by
  decide +kernel

theorem test_r32LapicDfr_after_reset : reads .r32LapicDfr (s0 diag) (.data32 0xFFFFFFFF#32) = true := by
  decide +kernel

theorem test_r32LapicSvr_after_reset : reads .r32LapicSvr (s0 diag) (.data32 0x000000FF#32) = true := by
  decide +kernel

theorem test_r32LapicError_after_reset : reads .r32LapicError (s0 diag) (.data32 0x00000000#32) = true := by
  decide +kernel

theorem test_r32LapicIcrLow_after_reset : reads .r32LapicIcrLow (s0 diag) (.data32 0x00000000#32) = true := by
  decide +kernel

theorem test_r32LapicLvtTimer_after_reset : reads .r32LapicLvtTimer (s0 diag) (.data32 0x00010000#32) = true := by
  decide +kernel

theorem test_r32LapicLvtPerf_after_reset : reads .r32LapicLvtPerf (s0 diag) (.data32 0x00010000#32) = true := by
  decide +kernel

theorem test_r32LapicLvtInt0_after_reset : reads .r32LapicLvtInt0 (s0 diag) (.data32 0x00010000#32) = true := by
  decide +kernel

theorem test_r32LapicLvtInt1_after_reset : reads .r32LapicLvtInt1 (s0 diag) (.data32 0x00010000#32) = true := by
  decide +kernel

theorem test_r32LapicLvtError_after_reset : reads .r32LapicLvtError (s0 diag) (.data32 0x00010000#32) = true := by
  decide +kernel

theorem test_r32LapicTimerDivide_after_reset : reads .r32LapicTimerDivide (s0 diag) (.data32 0x00000000#32) = true := by
  decide +kernel

/-- R102. -/
theorem test_r32LapicTpr_zero_extends : reads .r32LapicTpr (vectors diag [] [] [] 0x45#8) (.data32 0x00000045#32) = true := by
  decide +kernel

/-- R110. -/
theorem test_r32LapicIsr_word : reads (.r32LapicIsr 2#3) (vectors diag [] [0x40#8] [] 0#8) (.data32 0x00000001#32) = true ∧
    reads (.r32LapicIsr 0#3) (vectors diag [] [0x40#8] [] 0#8) (.data32 0#32) = true := by
  decide +kernel

/-- R111. -/
theorem test_r32LapicTmr_word : reads (.r32LapicTmr 1#3) (vectors diag [] [] [0x35#8] 0#8) (.data32 0x00200000#32) = true := by
  decide +kernel

/-- R112; 95_test_vectors.md 2.1. -/
theorem test_r32LapicIrr_word : reads (.r32LapicIrr 1#3) (vectors diag [0x21#8, 0x40#8] [] [] 0#8) (.data32 0x00000002#32) = true ∧
    reads (.r32LapicIrr 2#3) (vectors diag [0x21#8, 0x40#8] [] [] 0#8) (.data32 0x00000001#32) = true ∧
    reads (.r32LapicIrr 7#3) (vectors diag [0xFE#8] [] [] 0#8) (.data32 0x40000000#32) = true := by
  decide +kernel

/-- R116. -/
theorem test_r32LapicIcrHigh : reads .r32LapicIcrHigh { s0 diag with lapic := { (s0 diag).lapic with icr1 := 0xAB000000#32 } }
      (.data32 0xAB000000#32) = true := by
  decide +kernel

/-- R142, R143. -/
theorem test_r32LapicTimerInitial_and_current : reads .r32LapicTimerInitial (timing 0x00010000#32 1 100#32 60 0 (s0 diag)) (.data32 100#32) = true ∧
    reads .r32LapicTimerCurrent (timing 0x00010000#32 1 100#32 60 0 (s0 diag)) (.data32 60#32) = true := by
  decide +kernel

theorem test_w32LapicId : accepts (exec (.w32LapicId 0xFFFFFFFF#32) (s0 diag)) (fun t => decide (t.lapic.id = 0xFFFFFFFF#32)) = true := by
  decide +kernel

theorem test_w32LapicTpr : accepts (exec (.w32LapicTpr 0x12345645#32) (s0 diag)) (fun t => decide (t.lapic.tpr = 0x45#8)) = true := by
  decide +kernel

/-- R103; 95_test_vectors.md 2.3. -/
theorem test_w32LapicTpr_notifies : accepts (exec (.w32LapicTpr 0#32) (vectors diag [0x21#8] [] [] 0x40#8))
      (fun t => decide (t.out.events = [.notify])) = true ∧
    accepts (exec (.w32LapicTpr 0x40#32) (vectors diag [0x21#8] [] [] 0#8))
      (fun t => decide (t.out.events = []) && decide (intr t = false) && getBit t.lapic.irr 0x21#8) = true := by
  decide +kernel

theorem test_w32LapicLdr : accepts (exec (.w32LapicLdr 0x12345678#32) (s0 diag)) (fun t => decide (t.lapic.ldr = 0x12000000#32)) = true := by
  decide +kernel

theorem test_w32LapicDfr : accepts (exec (.w32LapicDfr 0x00000000#32) (s0 diag)) (fun t => decide (t.lapic.dfr = 0x0FFFFFFF#32)) = true := by
  decide +kernel

theorem test_w32LapicSvr : accepts (exec (.w32LapicSvr 0x000001FF#32) (s0 diag)) (fun t => decide (t.lapic.svr = 0x000001FF#32)) = true := by
  decide +kernel

/-- R114. -/
theorem test_w32LapicError_latches : accepts (exec (.w32LapicError 0x1234#32) { s0 diag with lapic := { (s0 diag).lapic with error := 0x40#32 } })
      (fun t => decide (t.lapic.readError = 0x40#32) && decide (t.lapic.error = 0#32)) = true := by
  decide +kernel

theorem test_w32LapicIcrHigh : accepts (exec (.w32LapicIcrHigh 0xAB000000#32) (s0 diag)) (fun t => decide (t.lapic.icr1 = 0xAB000000#32)) = true := by
  decide +kernel

theorem test_w32LapicLvtTimer : accepts (exec (.w32LapicLvtTimer 0x00020040#32) (s0 diag)) (fun t => decide (t.lapic.lvtTimer = 0x00020040#32)) = true := by
  decide +kernel

theorem test_w32LapicLvtPerf : accepts (exec (.w32LapicLvtPerf 0x00008700#32) (s0 diag)) (fun t => decide (t.lapic.lvtPerf = 0x00008700#32)) = true := by
  decide +kernel

theorem test_w32LapicLvtInt0 : accepts (exec (.w32LapicLvtInt0 0x00008700#32) (s0 diag)) (fun t => decide (t.lapic.lvtInt0 = 0x00008700#32)) = true := by
  decide +kernel

theorem test_w32LapicLvtInt1 : accepts (exec (.w32LapicLvtInt1 0x00000401#32) (s0 diag)) (fun t => decide (t.lapic.lvtInt1 = 0x00000401#32)) = true := by
  decide +kernel

theorem test_w32LapicLvtError : accepts (exec (.w32LapicLvtError 0xFFFFFFFF#32) (s0 diag)) (fun t => decide (t.lapic.lvtError = 0xFFFFFFFF#32)) = true := by
  decide +kernel

/-- R120. -/
theorem test_r32LapicEoi : faults .r32LapicEoi (s0 diag) .a1BadOffset = true ∧
    accepts (exec .r32LapicEoi (s0 prod)) (fun t => decide (t.draws = 1) && decide (t.faulted = none)) = true := by
  decide +kernel

/-- R121. -/
theorem test_w32LapicVersion : faults (.w32LapicVersion 0#32) (s0 diag) .a1BadOffset = true ∧ drops (.w32LapicVersion 0#32) (s0 prod) = true := by
  decide +kernel

/-- R121. -/
theorem test_w32LapicIsr : faults (.w32LapicIsr 0#3 0xFFFFFFFF#32) (s0 diag) .a1BadOffset = true ∧ drops (.w32LapicIsr 0#3 0xFFFFFFFF#32) (s0 prod) = true := by
  decide +kernel

/-- R121. -/
theorem test_w32LapicTmr : faults (.w32LapicTmr 7#3 0xFFFFFFFF#32) (s0 diag) .a1BadOffset = true ∧ drops (.w32LapicTmr 7#3 0xFFFFFFFF#32) (s0 prod) = true := by
  decide +kernel

/-- R121. -/
theorem test_w32LapicIrr : faults (.w32LapicIrr 0#3 0xFFFFFFFF#32) (s0 diag) .a1BadOffset = true ∧ drops (.w32LapicIrr 0#3 0xFFFFFFFF#32) (s0 prod) = true := by
  decide +kernel

/-- R121. -/
theorem test_w32LapicTimerCurrent : faults (.w32LapicTimerCurrent 5#32) (s0 diag) .a1BadOffset = true ∧ drops (.w32LapicTimerCurrent 5#32) (s0 prod) = true := by
  decide +kernel

/-- R122. -/
theorem test_r32LapicUnlisted : faults (.r32LapicUnlisted 0x0A0#20) (s0 diag) .a1BadOffset = true ∧
    drops (.r32LapicUnlisted 0x0A0#20) (s0 prod) = true := by
  decide +kernel

/-- R122. -/
theorem test_w32LapicUnlisted : faults (.w32LapicUnlisted 0x024#20 0#32) (s0 diag) .a1BadOffset = true ∧
    drops (.w32LapicUnlisted 0x024#20 0#32) (s0 prod) = true := by
  decide +kernel

/-! ## Other widths (95_test_vectors.md 2.8; R55 to R58) -/

theorem test_r8Lapic_lanes : 
    accepts (exec (.r8Lapic 0x080#20) (vectors diag [] [] [] 0x40#8))
      (fun t => decide (t.out = { response := .data8 0x40#8, events := [.log .b4ByteAccess] })) = true ∧
    accepts (exec (.r8Lapic 0x081#20) (vectors diag [] [] [] 0x40#8))
      (fun t => decide (t.out.response = .data8 0x00#8)) = true ∧
    accepts (exec (.r8Lapic 0x0E3#20) (s0 diag)) (fun t => decide (t.out.response = .data8 0xFF#8)) = true ∧
    accepts (exec (.r8Lapic 0x322#20) (s0 diag)) (fun t => decide (t.out.response = .data8 0x01#8)) = true := by
  decide +kernel

/-- R55. -/
theorem test_r8Lapic_of_eoi : accepts (exec (.r8Lapic 0x0B0#20) (s0 diag))
      (fun t => decide (t.faulted = some .a1BadOffset) && decide (t.out = { response := .none, events := [.log .b4ByteAccess] })) =
    true := by
  decide +kernel

theorem test_w8Lapic : faults (.w8Lapic 0x080#20 0x10#8) (s0 diag) .a2BadWidth = true ∧ drops (.w8Lapic 0x080#20 0x10#8) (s0 prod) = true := by
  decide +kernel

theorem test_w16Lapic : faults (.w16Lapic 0x080#20 0#16) (s0 diag) .a2BadWidth = true ∧ drops (.w16Lapic 0x080#20 0#16) (s0 prod) = true := by
  decide +kernel

theorem test_w64Lapic : faults (.w64Lapic 0x080#20 0#64) (s0 diag) .a2BadWidth = true ∧ drops (.w64Lapic 0x080#20 0#64) (s0 prod) = true := by
  decide +kernel

theorem test_w8Ioapic : faults (.w8Ioapic 0x00#20 0#8) (s0 diag) .a2BadWidth = true ∧ drops (.w8Ioapic 0x00#20 0#8) (s0 prod) = true := by
  decide +kernel

theorem test_w16Ioapic : faults (.w16Ioapic 0x10#20 0#16) (s0 diag) .a2BadWidth = true ∧ drops (.w16Ioapic 0x10#20 0#16) (s0 prod) = true := by
  decide +kernel

theorem test_w64Ioapic : faults (.w64Ioapic 0x14#20 0#64) (s0 diag) .a2BadWidth = true ∧ drops (.w64Ioapic 0x14#20 0#64) (s0 prod) = true := by
  decide +kernel

theorem test_r16Lapic : faults (.r16Lapic 0x080#20) (s0 diag) .a2BadWidth = true ∧ drops (.r16Lapic 0x080#20) (s0 prod) = true := by
  decide +kernel

theorem test_r64Lapic : faults (.r64Lapic 0x080#20) (s0 diag) .a2BadWidth = true ∧ drops (.r64Lapic 0x080#20) (s0 prod) = true := by
  decide +kernel

theorem test_r8Ioapic : faults (.r8Ioapic 0x00#20) (s0 diag) .a2BadWidth = true ∧ drops (.r8Ioapic 0x00#20) (s0 prod) = true := by
  decide +kernel

theorem test_r16Ioapic : faults (.r16Ioapic 0x10#20) (s0 diag) .a2BadWidth = true ∧ drops (.r16Ioapic 0x10#20) (s0 prod) = true := by
  decide +kernel

theorem test_r64Ioapic : faults (.r64Ioapic 0x14#20) (s0 diag) .a2BadWidth = true ∧ drops (.r64Ioapic 0x14#20) (s0 prod) = true := by
  decide +kernel

/-! ## The timer (95_test_vectors.md 2.5; R139 to R145) -/

/-- R141. -/
theorem test_w32LapicTimerInitial : accepts (exec (.w32LapicTimerInitial 100#32 1000) (s0 diag))
      (fun t => decide (t.lapic.timerInitial = 100#32) && decide (t.lapic.timerCurrent = 100) && decide (t.lapic.nextTick = 1000)) =
    true := by
  decide +kernel

/-- R139. -/
theorem test_w32LapicTimerDivide : 
    accepts (exec (.w32LapicTimerDivide 0x4#32) (s0 diag))
      (fun t => decide (t.lapic.timerDiv = 0x0#32) && decide (t.lapic.timerShift = 1)) = true ∧
    accepts (exec (.w32LapicTimerDivide 0x7#32) (s0 diag))
      (fun t => decide (t.lapic.timerDiv = 0x3#32) && decide (t.lapic.timerShift = 4)) = true ∧
    accepts (exec (.w32LapicTimerDivide 0xA#32) (s0 diag))
      (fun t => decide (t.lapic.timerDiv = 0xA#32) && decide (t.lapic.timerShift = 7)) = true ∧
    accepts (exec (.w32LapicTimerDivide 0xFFFFFFFF#32) (s0 diag))
      (fun t => decide (t.lapic.timerDiv = 0xB#32) && decide (t.lapic.timerShift = 0)) = true := by
  decide +kernel

theorem test_tick_counts_and_fires : 
    accepts (exec (.tick 5) (timing 0x00010000#32 1 10#32 10 0 (s0 diag)))
      (fun t => decide (t.lapic.timerCurrent = 8) && decide (t.lapic.nextTick = 4) && decide (t.lapic.irr = 0#256)) = true ∧
    accepts (exec (.tick 250) (timing 0x00020040#32 0 100#32 100 0 (s0 diag)))
      (fun t => decide (t.lapic.timerCurrent = 50) && decide (t.lapic.nextTick = 250) && decide (t.lapic.irr = setOf [0x40#8]) &&
        decide (t.out.events = [.notify])) = true ∧
    accepts (exec (.tick 20) (timing 0x00000041#32 0 10#32 6 4 (s0 diag)))
      (fun t => decide (t.lapic.timerCurrent = 0) && decide (t.lapic.nextTick = 20) && decide (t.lapic.irr = setOf [0x41#8])) = true := by
  decide +kernel

theorem test_tick_bad_mode : accepts (exec (.tick 10) (timing 0x00040041#32 0 5#32 5 0 (s0 diag)))
      (fun t => decide (t.faulted = some .a8BadTimerMode) && decide (t.lapic.nextTick = 10) && decide (t.lapic.timerCurrent = 5)) = true ∧
    accepts (exec (.tick 10) (timing 0x00040041#32 0 5#32 5 0 (s0 prod)))
      (fun t => decide (t.faulted = none) && decide (t.lapic.timerCurrent = 0) && decide (t.lapic.irr = 0#256)) = true := by
  decide +kernel

/-! ## Delivery, acknowledge and EOI (95_test_vectors.md 2.3, 2.4; R125 to R133) -/

theorem test_w32LapicIcrLow_dispatches : 
    accepts (exec (.w32LapicIcrLow 0x00041032#32) (s0 diag))
      (fun t => decide (t.lapic.icr0 = 0x00040032#32) && decide (t.lapic.irr = setOf [0x32#8]) && decide (t.lapic.tmr = setOf [])) = true ∧
    accepts (exec (.w32LapicIcrLow 0x00088034#32) (s0 diag))
      (fun t => decide (t.lapic.icr0 = 0x00088034#32) && decide (t.lapic.irr = setOf [0x34#8]) && decide (t.lapic.tmr = setOf [0x34#8])) = true ∧
    accepts (exec (.w32LapicIcrLow 0x000C0005#32) (s0 diag))
      (fun t => decide (t.lapic.icr0 = 0x000C0005#32) && decide (t.lapic.irr = setOf []) && decide (t.lapic.tmr = setOf [])) = true ∧
    accepts (exec (.w32LapicIcrLow 0x00000133#32) (s0 diag))
      (fun t => decide (t.lapic.icr0 = 0x00000133#32) && decide (t.lapic.irr = setOf [0x33#8]) && decide (t.lapic.tmr = setOf [])) = true ∧
    accepts (exec (.w32LapicIcrLow 0x00040500#32) (s0 diag))
      (fun t => decide (t.lapic.icr0 = 0x00040500#32) && decide (t.lapic.irr = setOf []) && decide (t.lapic.tmr = setOf [])) = true := by
  decide +kernel

theorem test_w32LapicIcrLow_violates : 
    accepts (exec (.w32LapicIcrLow 0x00000200#32) (s0 diag))
      (fun t => decide (t.lapic.icr0 = 0x00000200#32) && decide (t.faulted = some .a4BadDeliveryMode)) = true ∧
    accepts (exec (.w32LapicIcrLow 0x000400FF#32) (s0 diag))
      (fun t => decide (t.lapic.icr0 = 0x000400FF#32) && decide (t.faulted = some .a3BadVector)) = true ∧
    accepts (exec (.w32LapicIcrLow 0x00041FFF#32) (s0 diag))
      (fun t => decide (t.lapic.icr0 = 0x00040FFF#32) && decide (t.faulted = some .a4BadDeliveryMode)) = true := by
  decide +kernel

/-- R126. -/
theorem test_route_delivers : accepts (exec (.route { vector := 0x33#8, mode := 0#3, isLevel := false, destination := 7#8, destMode := true }) (s0 diag))
      (fun t => decide (t.lapic.irr = setOf [0x33#8]) && decide (t.lapic.tmr = 0#256) && decide (t.out.events = [.notify])) = true := by
  decide +kernel

/-- R125. -/
theorem test_route_coalesces : accepts (exec (.route { vector := 0x30#8, mode := 0#3, isLevel := false, destination := 0#8, destMode := false }) (vectors diag [0x30#8] [] [0x30#8] 0#8))
      (fun t => decide (t.lapic.tmr = setOf [0x30#8]) && decide (t.out.events = [.log .b3Coalesced])) = true := by
  decide +kernel

/-- R129. -/
theorem test_ack_takes_the_highest : accepts (exec .ack (vectors diag [0x21#8, 0x40#8] [] [] 0#8))
      (fun t => decide (t.out = { response := .vector (some 0x40#8), events := [] }) && decide (t.lapic.irr = setOf [0x21#8]) &&
        decide (t.lapic.isr = setOf [0x40#8])) = true := by
  decide +kernel

/-- R127, 90_conflicts.md C3. -/
theorem test_ack_spurious : accepts (exec .ack (vectors diag [0x4F#8] [] [] 0x45#8))
      (fun t => decide (t.out = { response := .vector none, events := [.log .b1SpuriousAck] }) && decide (t.lapic.irr = setOf [0x4F#8])) =
    true := by
  decide +kernel

/-- R131. -/
theorem test_w32LapicEoi_retires : accepts (exec (.w32LapicEoi 0xDEADBEEF#32) (vectors diag [] [0x40#8, 0x50#8] [] 0#8))
      (fun t => decide (t.lapic.isr = setOf [0x40#8])) = true ∧
    accepts (exec (.w32LapicEoi 0#32) (s0 diag)) (fun t => decide (t.out.events = [.log .b2EoiEmpty])) = true := by
  decide +kernel

/-- 95_test_vectors.md property 6, step 5. -/
theorem test_w32LapicEoi_refires : accepts (exec (.w32LapicEoi 0#32) (entry 0 0x0000C030#32 (lines 0#8 1#24 1#24 (vectors diag [] [0x30#8] [0x30#8] 0#8))))
      (fun t => decide (t.lapic.irr = setOf [0x30#8]) && decide (t.lapic.isr = 0#256) && decide (configOf t.ioapic 0 = 0x0000C030#32) &&
        decide (t.out.events = [.notify, .notify])) = true := by
  decide +kernel

/-! ## The IOAPIC (95_test_vectors.md 2.6, 2.7; R148 to R164) -/

/-- R148. -/
theorem test_r32Ioregsel : reads .r32Ioregsel (lines 0x1A#8 0#24 0#24 (s0 diag)) (.data32 0x0000001A#32) = true := by
  decide +kernel

/-- R149. -/
theorem test_w32Ioregsel : accepts (exec (.w32Ioregsel 0x12345640#32) (s0 diag)) (fun t => decide (t.ioapic.ioregsel = 0x40#8)) = true := by
  decide +kernel

/-- R157. -/
theorem test_r32Iowin : reads .r32Iowin (lines 0x3E#8 0#24 0#24 (s0 diag)) (.data32 0x00010000#32) = true ∧ reads .r32Iowin (lines 0x3F#8 0#24 0#24 (s0 diag)) (.data32 0#32) = true := by
  decide +kernel

/-- R159. -/
theorem test_w32Iowin : accepts (exec (.w32Iowin 0x12345678#32) (lines 0x17#8 0#24 0#24 (s0 diag))) (fun t => decide (destOf t.ioapic 3 = 0x12000000#32)) = true := by
  decide +kernel

/-- R152. -/
theorem test_r32IowinId : reads .r32IowinId { s0 diag with ioapic := { (s0 diag).ioapic with id := 0xF#4 } } (.data32 0x0F000000#32) = true := by
  decide +kernel

/-- R153. -/
theorem test_w32IowinId : accepts (exec (.w32IowinId 0xFFFFFFFF#32) (s0 diag)) (fun t => decide (t.ioapic.id = 0xF#4)) = true := by
  decide +kernel

/-- R154. -/
theorem test_r32IowinVersion : reads .r32IowinVersion (lines 0x01#8 0#24 0#24 (s0 diag)) (.data32 0x00170020#32) = true := by
  decide +kernel

/-- R155. -/
theorem test_r32IowinArbitration : reads .r32IowinArbitration { s0 diag with ioapic := { (s0 diag).ioapic with id := 0xF#4, ioregsel := 2#8 } }
      (.data32 0x0F000000#32) = true := by
  decide +kernel

/-- R156. -/
theorem test_w32IowinReadOnly : faults (.w32IowinReadOnly 0#32) (lines 0x01#8 0#24 0#24 (s0 diag)) .a6BadIoapicIndex = true ∧
    drops (.w32IowinReadOnly 0#32) (lines 0x02#8 0#24 0#24 (s0 prod)) = true := by
  decide +kernel

/-- R157. -/
theorem test_r32IowinRedirection : reads .r32IowinRedirection (entry 5 0x0000C035#32 (lines 0x1A#8 0#24 0#24 (s0 diag))) (.data32 0x0000C035#32) = true := by
  decide +kernel

/-- R158. -/
theorem test_w32IowinConfig_merges : accepts (exec (.w32IowinConfig 0xFFFFFFFF#32) (entry 0 0x0000C030#32 (lines 0x10#8 0#24 0#24 (s0 diag))))
      (fun t => decide (configOf t.ioapic 0 = 0x0001EFFF#32)) = true := by
  decide +kernel

/-- 95_test_vectors.md property 7, step 4. -/
theorem test_w32IowinConfig_unmasks : accepts (exec (.w32IowinConfig 0x00008032#32) (entry 2 0x00018032#32 (lines 0x14#8 4#24 4#24 (s0 diag))))
      (fun t => decide (configOf t.ioapic 2 = 0x0000C032#32) && decide (t.lapic.irr = setOf [0x32#8]) &&
        decide (t.lapic.tmr = setOf [0x32#8]) && decide (t.out.events = [.notify])) = true := by
  decide +kernel

/-- R159. -/
theorem test_w32IowinDestination : accepts (exec (.w32IowinDestination 0x12345678#32) (lines 0x3F#8 0#24 0#24 (s0 diag))) (fun t => decide (destOf t.ioapic 23 = 0x12000000#32)) =
    true := by
  decide +kernel

/-- R164. -/
theorem test_iowinUnknown : faults (.iowinUnknown none) (lines 0x03#8 0#24 0#24 (s0 diag)) .a6BadIoapicIndex = true ∧ drops (.iowinUnknown (some 0#32)) (lines 0x40#8 0#24 0#24 (s0 prod)) = true := by
  decide +kernel

theorem test_r32IoapicUnlisted : faults (.r32IoapicUnlisted 0x20#20) (s0 diag) .a7BadIoapicOffset = true ∧ drops (.r32IoapicUnlisted 0x20#20) (s0 prod) = true := by
  decide +kernel

theorem test_w32IoapicUnlisted : faults (.w32IoapicUnlisted 0x14#20 0#32) (s0 diag) .a7BadIoapicOffset = true ∧
    drops (.w32IoapicUnlisted 0x14#20 0#32) (s0 prod) = true := by
  decide +kernel

/-- 95_test_vectors.md P1, property 7. -/
theorem test_raiseLine : accepts (exec (.raiseLine 5#20) (entry 5 0x00008035#32 (s0 diag)))
      (fun t => decide (configOf t.ioapic 5 = 0x0000C035#32) && decide (t.lapic.irr = setOf [0x35#8]) &&
        decide (t.ioapic.irr = 0x20#24) && decide (t.ioapic.irqValue = 0x20#24) && decide (t.out.events = [.notify])) = true ∧
    accepts (exec (.raiseLine 1#20) (entry 1 0x00010031#32 (s0 diag)))
      (fun t => decide (t.ioapic.irqValue = 0x2#24) && decide (t.ioapic.irr = 0#24) && decide (t.lapic.irr = 0#256)) = true := by
  decide +kernel

theorem test_raiseLine_violates : faults (.raiseLine 24#20) (s0 diag) .a5BadLine = true ∧ drops (.raiseLine 24#20) (s0 prod) = true ∧
    accepts (exec (.raiseLine 6#20) (entry 6 0x00008436#32 (s0 diag)))
      (fun t => decide (t.faulted = some .a4BadDeliveryMode) && decide (configOf t.ioapic 6 = 0x0000C436#32)) = true := by
  decide +kernel

/-- R162. -/
theorem test_lowerLine : accepts (exec (.lowerLine 2#20) (entry 2 0x00018032#32 (lines 0#8 4#24 4#24 (s0 diag))))
      (fun t => decide (t.ioapic.irr = 0#24) && decide (t.ioapic.irqValue = 0#24)) = true ∧
    faults (.lowerLine 200#20) (s0 diag) .a5BadLine = true := by
  decide +kernel

/-- 95_test_vectors.md 2.7. -/
theorem test_remoteEoi_scans_all : accepts (exec (.remoteEoi 0x40#8) (entry 7 0x0000C040#32 (entry 8 0x0000C040#32 (lines 0#8 0x180#24 0x180#24 (s0 diag)))))
      (fun t => decide (configOf t.ioapic 7 = 0x0000C040#32) && decide (configOf t.ioapic 8 = 0x0000C040#32) &&
        decide (t.lapic.irr = setOf [0x40#8]) && decide (t.out.events = [.notify, .log .b3Coalesced])) = true := by
  decide +kernel

theorem test_remoteEoi_without_entry : drops (.remoteEoi 0x99#8) (s0 diag) = true := by
  decide +kernel

/-! ## The windows (R51, R52, R169) -/

/-- A block whose IOAPIC window is 2 MiB. -/
def wide : Params := { diag with lapicBase := 0xFEE00000, ioapicBase := 0xFEC00000, ioapicWindow := 0x200000 }

/-- The offsets at both ends of each window, and just outside. -/
theorem test_window_offsets :
    lapicWindowOffset wide 0xFEE00080 = some 0x080#20 ∧ lapicWindowOffset wide 0xFEEFFFFF = some 0xFFFFF#20 ∧
    lapicWindowOffset wide 0xFEF00000 = none ∧ ioapicWindowOffset wide 0xFEC00010 = some 0x10 ∧
    ioapicWindowOffset wide 0xFEDFFFFF = some 0x1FFFFF ∧ ioapicWindowOffset wide 0xFEE00000 = none ∧
    ioapicWindowOffset wide 0xFEBFFFFF = none := by
  decide +kernel

/-- R72's and R147's descriptors; and offset 0x100010, which is not IOWIN: an access of it is A7 (R58). -/
theorem test_forwarded_accesses :
    forwardLapic wide 0#4 2#2 0xFEE00080 = some 0x00008080#32 ∧ forwardIoapic wide 1#4 2#2 0xFEC00000 = some 0x00000091#32 ∧
    forwardIoapic wide 0#4 2#2 0xFEC00010 = some 0x00001090#32 ∧
    forwardIoapic wide 0#4 2#2 0xFED00010 = some 0x0FFFFF90#32 ∧
    decode (tableTx 32 0x0FFFFF90) = .ok (.r32IoapicUnlisted 0xFFFFF#20) ∧
    faults (.r32IoapicUnlisted 0xFFFFF#20) (s0 diag) .a7BadIoapicOffset = true := by
  decide +kernel

/-! ## Host operations (95_test_vectors.md 2.9 to 2.11; R175, R176, R182, R201) -/

theorem test_reset_clears_faulted : accepts (exec (.reset 5) { s0 diag with faulted := some .a2BadWidth })
      (fun t => decide (t.faulted = none) && decide (t.lapic.nextTick = 5)) = true := by
  decide +kernel

theorem test_restore_keeps_pending : accepts (exec (.restore (snapshotOf (vectors diag [0x21#8] [] [] 0#8))) (s0 diag))
      (fun t => decide (t.lapic.irr = setOf [0x21#8]) && decide (t.out.events = []) && intr t) = true := by
  decide +kernel

/-- 95_test_vectors.md 2.9. -/
theorem test_restore_refuses : exec (.restore (snapshotOf (timing 0#32 9 0#32 0 0 (s0 diag)))) (s0 diag) = .refused .illFormedRestore := by
  rfl

theorem test_snapshot : reads .snapshot (s0 diag) (.record (snapshotOf (s0 diag))) = true := by
  decide +kernel

/-- 95_test_vectors.md 2.9. -/
theorem test_faulted_refuses : exec .ack { s0 diag with faulted := some .a2BadWidth } = .refused .blockFaulted := by
  rfl

/-! ## Witnesses: the hypotheses of each obligation can be met, at the boundaries of its clauses -/

theorem witness_EncodedInstructionDecodesBack :
    Instr.wellFormed (.r32LapicUnlisted 0xFFFFF#20) = true ∧ Instr.wellFormed (.w32IoapicUnlisted 0x11#20 0#32) = true ∧
    Instr.wellFormed .ack = true := by
  decide +kernel

theorem witness_DecodedDescriptorIsThePresentedOne :
    decode (tableTx 32 0x00001802) = .ok (.raiseLine 24#20) := by
  decide +kernel

theorem witness_OnlyIllFormedDescriptorsAreRefused :
    { s0 diag with pending := [tableTx 32 0x0000000B] }.pending = tableTx 32 0x0000000B :: [] ∧
    decode (tableTx 32 0x0000000B) = .error .unknownKind := by
  decide +kernel

/-- The indices at the bounds of each clause of IowinIndexSelectsTheRow. -/
theorem witness_IowinIndexSelectsTheRow :
    (0x10#8).toNat = 0x10 + 2 * (0 : Line).val ∧ (0x3E#8).toNat = 0x10 + 2 * (23 : Line).val ∧
    (0x11#8).toNat = 0x11 + 2 * (0 : Line).val ∧ (0x3F#8).toNat = 0x11 + 2 * (23 : Line).val ∧
    (∀ n ∈ [0x03#8, 0x0F#8, 0x40#8, 0xFF#8], (0x03 ≤ n.toNat ∧ n.toNat ≤ 0x0F) ∨ 0x40 ≤ n.toNat) := by
  decide

theorem witness_StepRunsTheDecodedInstruction :
    { s0 diag with pending := [encode .ack] }.pending = encode .ack :: [] ∧ decode (encode .ack) = .ok .ack ∧
    (s0 diag).pending = [] := by
  decide +kernel

theorem witness_IssuedWordRunsNext :
    decodeTableWord 32 0x00000004 = some .ack ∧ Instr.wellFormed (.tick 5) = true := by
  decide +kernel

theorem witness_FaultedBlockAcceptsOnlyResetAndRestore :
    accepts (exec (.w8Lapic 0#20 0#8) (s0 diag)) (fun t => decide (t.faulted ≠ none)) = true ∧
    { s0 diag with faulted := some .a8BadTimerMode }.faulted ≠ none ∧ Record.zero.WellFormed := by
  decide +kernel

/-- The hypothesis `Running s` of the statements that have no other, under both values of `DIAGNOSTIC`. -/
theorem witness_Running : Running (s0 diag) ∧ Running (s0 prod) := by decide +kernel

/-- R47's record at the bounds of its fields, and just outside. -/
theorem witness_RecordWellFormed :
    RecordWellFormed (timing 0#32 7 0#32 (2 ^ 32 - 1) 0 (s0 diag)) ∧ ¬ RecordWellFormed (timing 0#32 8 0#32 0 0 (s0 diag)) ∧
    ¬ RecordWellFormed (timing 0#32 0 0#32 (2 ^ 32) 0 (s0 diag)) := by
  decide +kernel

theorem witness_RunningBlockCompletesEveryTransaction :
    Running (s0 prod) ∧ Record.zero.WellFormed ∧ (s0 prod).params.diagnostic = false := by
  decide +kernel

theorem witness_ParametersAndQueueStand :
    accepts (exec .ack (s0 diag)) (fun _ => true) = true := by
  decide +kernel

theorem witness_UnlistedLapicOffsetsAreBadOffset :
    Running (s0 diag) ∧ ∀ n ∈ [0x000, 0x01F, 0x021, 0x0FF, 0x101, 0x271, 0x27F, 0x3DF, 0x3F0, 0xFFFFF], ¬ ListedOffset n := by
  refine ⟨by decide +kernel, ?_⟩
  unfold ListedOffset
  decide

theorem witness_LapicRegistersChangeOnlyByTheirWrites :
    accepts (exec (.w32LapicId 1#32) (s0 diag)) (fun t => decide (t.lapic.id ≠ (s0 diag).lapic.id)) = true ∧
    (∀ n, Instr.w32LapicId 1#32 ≠ .reset n) ∧ ∀ r, Instr.w32LapicId 1#32 ≠ .restore r := by
  exact ⟨by decide +kernel, nofun, nofun⟩

/-- The clause of TMR: an accepted level delivery sets the bit (R137). -/
theorem witness_TmrChangesAtAnAcceptedDelivery :
    accepts (exec (.route { RouteArgs.none with vector := 0x10#8, isLevel := true }) (s0 diag)) (fun t =>
      getBit t.lapic.tmr 0x10#8 && getBit t.lapic.irr 0x10#8) = true ∧
    getBit (s0 diag).lapic.tmr 0x10#8 = false := by
  decide +kernel

theorem witness_ByteReadReturnsTheLane :
    lapicRegAt (0x273#20 &&& 0xFFFFC#20) = some (.irr 7#3) ∧ (lapicValue (s0 diag) (.irr 7#3)).isSome = true ∧
    lapicRegAt (0x0B3#20 &&& 0xFFFFC#20) = some .eoi ∧ lapicValue (s0 diag) .eoi = none ∧
    lapicRegAt (0xFFFFF#20 &&& 0xFFFFC#20) = none := by
  decide +kernel

theorem witness_UnlistedIoapicOffsetsAreBadOffset :
    Running (s0 diag) ∧ ((0x01#20).toNat ≠ 0x00 ∧ (0x01#20).toNat ≠ 0x10) ∧ ((0x11#20).toNat ≠ 0x00 ∧ (0x11#20).toNat ≠ 0x10) ∧
    (0xFFFFF#20).toNat ≠ 0x00 ∧ (0xFFFFF#20).toNat ≠ 0x10 := by
  decide +kernel

theorem witness_ReadsChangeNoRegister :
    decode (tableTx 32 0x00008000) = .ok (.r8Lapic 0x080#20) ∧ (tableTx 32 0x00008000).desc.extractLsb' 0 4 = 0#4 ∧
    accepts (exec (.r8Lapic 0x080#20) (s0 diag)) (fun _ => true) = true := by
  decide +kernel

theorem witness_TimerWritesArmAndDivide :
    0xFFFFFFF4#32 &&& 0x0000000B#32 = 0x0#32 ∧ 0x5#32 &&& 0x0000000B#32 = 0x1#32 ∧ 0x2#32 &&& 0x0000000B#32 = 0x2#32 ∧
    0x7#32 &&& 0x0000000B#32 = 0x3#32 ∧ 0x8#32 &&& 0x0000000B#32 = 0x8#32 ∧ 0x9#32 &&& 0x0000000B#32 = 0x9#32 ∧
    0xA#32 &&& 0x0000000B#32 = 0xA#32 ∧ 0xFFFFFFFF#32 &&& 0x0000000B#32 = 0xB#32 := by
  decide +kernel

/-- A periodic timer at each bound of its count, and a run of TICKs. -/
theorem witness_TicksKeepThePeriodicCountInRange :
    ∀ c ∈ [1, 100], accepts (Host.Core.run Sys2Proof.core 2
      { timing 0x00020040#32 0 100#32 c 0 (s0 diag) with pending := [100, 250].map fun now => encode (.tick now) })
      (fun _ => true) = true := by
  decide +kernel

theorem witness_TickSpacingDoesNotMatter :
    (4 ≤ 9 ∧ (9 - 0) / 2 ^ 0 < 10) ∧
    accepts (exec (.tick 4) (timing 0x00010000#32 0 10#32 10 0 (s0 diag))) (fun _ => true) = true := by
  decide +kernel

theorem witness_RepeatedDeliveryCoalesces :
    Running (s0 diag) ∧ DeliveringMode 0#3 ∧ DeliveringMode 1#3 ∧ Deliverable 0x10#8 ∧ Deliverable 0xFE#8 ∧
    ¬ Deliverable 0x0F#8 ∧ ¬ Deliverable 0xFF#8 ∧
    accepts (exec (.route { vector := 0x10#8, mode := 1#3, isLevel := true, destination := 0#8, destMode := false }) (s0 diag)) (fun _ => true) = true := by
  decide +kernel

theorem eligible_state : IsEligible (vectors diag [0x21#8, 0x40#8] [0x3F#8] [] 0x3F#8).lapic 0x40#8 := by
  obtain ⟨h1, h2, h3, _⟩ := (eligible_eq_some_iff (vectors diag [0x21#8, 0x40#8] [0x3F#8] [] 0x3F#8).lapic 0x40#8).1
    (by decide +kernel)
  exact ⟨⟨h1, h2⟩, h3, by decide⟩

theorem no_eligible_vector (v : Vec) : ¬ IsEligible (vectors diag [0x4F#8] [] [] 0x40#8).lapic v := by
  rintro ⟨h, _, hc⟩
  have hv := (highest_eq_some_iff _ v).2 h
  rw [show highest (vectors diag [0x4F#8] [] [] 0x40#8).lapic.irr = some 0x4F#8 by decide +kernel] at hv
  cases hv
  exact absurd hc (by decide)

/-- A vector that is eligible, with one in service below it and the TPR's class one below; and a state with a request and
no eligible vector. -/
theorem witness_AckMovesTheEligibleVector :
    IsEligible (vectors diag [0x21#8, 0x40#8] [0x3F#8] [] 0x3F#8).lapic 0x40#8 ∧
    ∀ v : Vec, ¬ IsEligible (vectors diag [0x4F#8] [] [] 0x40#8).lapic v :=
  ⟨eligible_state, no_eligible_vector⟩

theorem witness_ServiceIsNotPreemptedByLowerRequests :
    Running (vectors diag [0x21#8, 0x50#8] [0x50#8] [] 0#8) ∧
    getBit (vectors diag [0x21#8, 0x50#8] [0x50#8] [] 0#8).lapic.isr 0x50#8 = true ∧
    ∀ v : Vec, getBit (vectors diag [0x21#8, 0x50#8] [0x50#8] [] 0#8).lapic.irr v = true → v ≤ 0x50#8 :=
  ⟨rfl, by decide +kernel, ((highest_eq_some_iff _ _).1 (by decide +kernel)).2⟩

/-- ISR empty; the highest vector in service with TMR clear, and with TMR set. -/
theorem witness_EoiRetiresTheHighestVector :
    (s0 diag).lapic.isr = 0#256 ∧ IsHighest (vectors diag [] [0x40#8, 0x50#8] [0x40#8] 0#8).lapic.isr 0x50#8 ∧
    getBit (vectors diag [] [0x40#8, 0x50#8] [0x40#8] 0#8).lapic.tmr 0x50#8 = false ∧
    getBit (vectors diag [] [0x40#8, 0x50#8] [0x50#8] 0#8).lapic.tmr 0x50#8 = true :=
  ⟨rfl, (highest_eq_some_iff _ _).1 (by decide +kernel), by decide +kernel, by decide +kernel⟩

theorem witness_EoiUndoesTheLastAcknowledge :
    accepts (exec .ack (vectors diag [0x60#8] [0x50#8] [] 0#8)) (fun t => decide (t.out.response = .vector (some 0x60#8)) &&
      accepts (exec (.w32LapicEoi 0#32) t) fun _ => true) = true := by
  decide +kernel

theorem witness_OnlyAckClearsARequest :
    getBit (vectors diag [0x40#8] [] [] 0#8).lapic.irr 0x40#8 = true ∧
    accepts (exec .ack (vectors diag [0x40#8] [] [] 0#8)) (fun t => getBit t.lapic.irr 0x40#8 == false) = true := by
  decide +kernel

theorem witness_OnlyDeliverableVectorsEnterIrr :
    ∀ v ∈ [0x10#8, 0xFE#8], accepts (exec (.route { RouteArgs.none with vector := v }) (s0 diag))
      (fun t => getBit t.lapic.irr v && (getBit (s0 diag).lapic.irr v == false)) = true := by
  decide +kernel

theorem witness_ServiceBeginsAtAckAndEndsAtEoi :
    accepts (exec .ack (vectors diag [0x40#8] [] [] 0#8)) (fun t => getBit t.lapic.isr 0x40#8) = true ∧
    accepts (exec (.w32LapicEoi 0#32) (vectors diag [] [0x40#8] [] 0#8)) (fun t => getBit t.lapic.isr 0x40#8 == false) = true := by
  decide +kernel

theorem witness_RisingIntrNotifies :
    intr (s0 diag) = false ∧ accepts (exec (.w32LapicIcrLow 0x00040030#32) (s0 diag)) (fun t => intr t && decide (Running t)) = true := by
  decide +kernel

/-- IOREGSEL at the bounds of each clause of the statements about IOWIN. -/
theorem witness_IowinIndices :
    (s0 diag).ioapic.ioregsel.toNat = 0x00 ∧ (lines 0x01#8 0#24 0#24 (s0 diag)).ioapic.ioregsel.toNat = 0x01 ∧
    (lines 0x02#8 0#24 0#24 (s0 diag)).ioapic.ioregsel.toNat = 0x02 ∧
    (lines 0x10#8 0#24 0#24 (s0 diag)).ioapic.ioregsel.toNat = 0x10 + 2 * (0 : Line).val ∧
    (lines 0x3E#8 0#24 0#24 (s0 diag)).ioapic.ioregsel.toNat = 0x10 + 2 * (23 : Line).val ∧
    (lines 0x11#8 0#24 0#24 (s0 diag)).ioapic.ioregsel.toNat = 0x11 + 2 * (0 : Line).val ∧
    (lines 0x3F#8 0#24 0#24 (s0 diag)).ioapic.ioregsel.toNat = 0x11 + 2 * (23 : Line).val ∧
    (∀ n ∈ [0x03#8, 0x0F#8, 0x40#8, 0xFF#8],
      (0x03 ≤ (lines n 0#24 0#24 (s0 diag)).ioapic.ioregsel.toNat ∧ (lines n 0#24 0#24 (s0 diag)).ioapic.ioregsel.toNat ≤ 0x0F) ∨
        0x40 ≤ (lines n 0#24 0#24 (s0 diag)).ioapic.ioregsel.toNat) := by
  decide +kernel

/-- The line numbers at the bound of the clauses of RAISE and LOWER. -/
theorem witness_LineNumbers :
    (23#20).toNat = (23 : Line).val ∧ (0#20).toNat = (0 : Line).val ∧ 24 ≤ (24#20).toNat ∧ 24 ≤ (0xFFFFF#20).toNat := by
  decide

/-- The scan of REMOTE_EOI(0x35) over an entry of each clause: 0 goes again as level, 1 goes again as edge, 2 is hit and
masked, 23 is not hit. -/
def scanned (p : Params) : State :=
  entry 0 0x0000C035#32 (entry 1 0x00004035#32 (entry 2 0x0001C035#32 (entry 23 0x00008035#32
    (lines 0#8 0x800007#24 0x800007#24 (s0 p)))))

theorem witness_RemoteEoiReleasesEveryMatchingEntry :
    ∀ p ∈ [diag, prod], Running (scanned p) ∧
      (∀ k ∈ [(0 : Line), 1], (configOf (scanned p).ioapic k).extractLsb' 0 8 = 0x35#8 ∧
        (configOf (scanned p).ioapic k).getLsbD 14 = true ∧ (scanned p).ioapic.irr.getLsbD k = true ∧
        (configOf (scanned p).ioapic k).getLsbD 16 = false ∧ DeliveringMode ((configOf (scanned p).ioapic k).extractLsb' 8 3)) ∧
      (configOf (scanned p).ioapic 0).getLsbD 15 = true ∧ (configOf (scanned p).ioapic 1).getLsbD 15 = false ∧
      (configOf (scanned p).ioapic 2).getLsbD 14 = true ∧ (configOf (scanned p).ioapic 2).getLsbD 16 = true ∧
      (configOf (scanned p).ioapic 23).getLsbD 14 = false ∧ Deliverable 0x35#8 := by
  decide +kernel

/-- `scanned`, with entry 4 going again in mode 2 (SMI): entries 0 to 3 are one of each clause, 3 not hit. -/
def stopped : State :=
  entry 4 0x0000C235#32 { scanned diag with ioapic := { (scanned diag).ioapic with irr := 0x800017#24 } }

/-- Every hypothesis of one state, and its result: A4 at entry 4, the entries below it released. -/
theorem witness_RemoteEoiScanEndsAtTheFirstViolation :
    Running stopped ∧ stopped.params.diagnostic = true ∧
      ((configOf stopped.ioapic 4).extractLsb' 0 8 = 0x35#8 ∧ (configOf stopped.ioapic 4).getLsbD 14 = true) ∧
      (stopped.ioapic.irr.getLsbD (4 : Line) = true ∧ (configOf stopped.ioapic 4).getLsbD 16 = false) ∧
      (∀ k : Line, k < 4 → (configOf stopped.ioapic k).extractLsb' 0 8 = 0x35#8 →
        (configOf stopped.ioapic k).getLsbD 16 = false →
        DeliveringMode ((configOf stopped.ioapic k).extractLsb' 8 3) ∧ Deliverable 0x35#8) ∧
      ¬ DeliveringMode ((configOf stopped.ioapic 4).extractLsb' 8 3) ∧
      accepts (exec (.remoteEoi 0x35#8) stopped) (fun t =>
        decide (t.faulted = some .a4BadDeliveryMode) && decide (configOf t.ioapic 0 = 0x0000C035#32) &&
          decide (configOf t.ioapic 1 = 0x00000035#32) && decide (configOf t.ioapic 2 = 0x00018035#32) &&
          decide (configOf t.ioapic 4 = 0x0000C235#32) && decide (t.ioapic.irr = 0x800015#24)) = true := by
  decide +kernel

/-- The other code, at line 0: an edge entry whose vector may not be delivered. -/
theorem witness_RemoteEoiScanEndsAtABadVector :
    accepts (exec (.remoteEoi 0x0F#8) (entry 0 0x0000400F#32 (lines 0#8 0#24 1#24 (s0 diag)))) (fun t =>
      decide (t.faulted = some .a3BadVector) && decide (configOf t.ioapic 0 = 0x0000000F#32) &&
        decide (t.ioapic.irr = 0#24)) = true := by
  decide +kernel

theorem witness_OnlyRemoteEoiClearsRemoteIrr :
    (configOf (scanned diag).ioapic 2).getLsbD 14 = true ∧
    accepts (exec (.remoteEoi 0x35#8) (scanned diag)) (fun t => (configOf t.ioapic 2).getLsbD 14 == false) = true := by
  decide +kernel

theorem witness_OnlyLevelEntriesSetRemoteIrr :
    (configOf (entry 5 0x00008035#32 (s0 diag)).ioapic 5).getLsbD 14 = false ∧
    accepts (exec (.raiseLine 5#20) (entry 5 0x00008035#32 (s0 diag))) (fun t => (configOf t.ioapic 5).getLsbD 14) = true := by
  decide +kernel

theorem witness_EntryInServiceDoesNotRouteAgain :
    Running (lines 0x3E#8 0#24 0#24 (entry 23 0x0000C035#32 (s0 diag))) ∧
    (configOf (lines 0x3E#8 0#24 0#24 (entry 23 0x0000C035#32 (s0 diag))).ioapic 23).getLsbD 14 = true ∧
    (configOf (lines 0x3E#8 0#24 0#24 (entry 23 0x0000C035#32 (s0 diag))).ioapic 23).getLsbD 15 = true ∧
    (0x00008035#32).getLsbD 15 = true ∧ (23#20).toNat = (23 : Line).val ∧
    (lines 0x3E#8 0#24 0#24 (entry 23 0x0000C035#32 (s0 diag))).ioapic.ioregsel.toNat = 0x10 + 2 * (23 : Line).val := by
  decide +kernel

theorem witness_ReservedConfigBitsStand :
    accepts (exec (.w32Iowin 0xFFFFFFFF#32) (entry 0 0xFFFE0000#32 (lines 0x10#8 0#24 0#24 (s0 diag))))
      (fun t => decide (configOf t.ioapic 0 = 0xFFFFAFFF#32)) = true := by
  decide +kernel

theorem witness_IoapicRegistersChangeOnlyByTheirTransactions :
    accepts (exec (.raiseLine 2#20) (entry 2 0x00018032#32 (s0 diag)))
      (fun t => t.ioapic.irr.getLsbD (2 : Line) && ((s0 diag).ioapic.irr.getLsbD (2 : Line) == false)) = true := by
  decide +kernel

/-- Its clauses of config words: the write at index 0x3E, RAISE (remote IRR), and the release of entry 2. -/
theorem witness_ConfigWordsChange :
    accepts (exec (.w32Iowin 0x00010055#32) (lines 0x3E#8 0#24 0#24 (s0 diag)))
      (fun t => decide (configOf t.ioapic 23 = 0x00010055#32)) = true ∧
    accepts (exec (.raiseLine 23#20) (entry 23 0x00008032#32 (s0 diag)))
      (fun t => decide (configOf t.ioapic 23 = 0x0000C032#32)) = true ∧
    accepts (exec (.remoteEoi 0x35#8) (scanned diag)) (fun t => decide (configOf t.ioapic 2 = 0x00018035#32)) = true := by
  decide +kernel

/-- Its clause of a pending bit that is cleared: LOWER of a level entry, and the attempt of an edge entry by RAISE, by the
config write that unmasks it and by its release. -/
theorem witness_PendingBitsAreCleared :
    accepts (exec (.lowerLine 23#20) (entry 23 0x00018032#32 (lines 0#8 0x800000#24 0x800000#24 (s0 diag))))
      (fun t => decide (t.ioapic.irr = 0#24)) = true ∧
    accepts (exec (.raiseLine 0#20) (entry 0 0x00000032#32 (lines 0#8 0#24 1#24 (s0 diag))))
      (fun t => decide (t.ioapic.irr = 0#24)) = true ∧
    accepts (exec (.w32Iowin 0x00000032#32) (lines 0x10#8 0#24 1#24 (s0 diag)))
      (fun t => decide (t.ioapic.irr = 0#24)) = true ∧
    accepts (exec (.remoteEoi 0x35#8) (scanned diag)) (fun t => decide (t.ioapic.irr = 0x800005#24)) = true := by
  decide +kernel

theorem witness_ReadsRightAfterReset :
    accepts (exec (.reset 7) (s0 diag)) (fun t => accepts (exec (.w32Ioregsel 0x3F#32) t) fun _ => true) = true ∧
    (0x3E#32).toNat = 0x10 + 2 * (23 : Line).val ∧ (0x3F#32).toNat = 0x11 + 2 * (23 : Line).val := by
  decide +kernel

theorem witness_RestoreInstallsAWellFormedRecord :
    Record.zero.WellFormed ∧ ¬ (snapshotOf (timing 0#32 8 0#32 0 0 (s0 diag))).WellFormed := by
  decide +kernel

theorem witness_SnapshotThenRestoreRoundTrips :
    RecordWellFormed (s0 diag) ∧
    accepts (exec .snapshot (s0 diag)) (fun t => decide (t.out.response = .record (snapshotOf (s0 diag)))) = true ∧
    accepts (exec (.reset 9) (s0 prod)) (fun _ => true) = true := by
  decide +kernel

theorem witness_StepKeepsTheRecordWellFormed :
    RecordWellFormed { s0 diag with pending := [encode (.tick 5)] } ∧
    accepts (step { s0 diag with pending := [encode (.tick 5)] }) (fun _ => true) = true ∧
    accepts (exec (.restore Record.zero) (s0 diag)) (fun _ => true) = true := by
  decide +kernel

end Sys2Proof.Tests
end

/-! # Scope: the model's own fields

No transaction changes the parameters (R9, log 4) or the queue of issued transactions (log 1). The relation
`ParamsAndQueueKept` says it of two states; each shared operation satisfies it, then each body, then `exec`. -/

namespace Sys2Proof.Machine

/-- `t` has the parameters and the issued transactions of `s`. -/
structure ParamsAndQueueKept (s t : State) : Prop where
  params : t.params = s.params
  pending : t.pending = s.pending

namespace ParamsAndQueueKept

theorem refl (s : State) : ParamsAndQueueKept s s := ⟨rfl, rfl⟩

theorem trans {s t u : State} (h₁ : ParamsAndQueueKept s t) (h₂ : ParamsAndQueueKept t u) : ParamsAndQueueKept s u :=
  ⟨h₂.params.trans h₁.params, h₂.pending.trans h₁.pending⟩

/-- A delivery, whichever path it takes. -/
theorem of_deliveryStep {s t : State} (h : DeliveryStep s t) : ParamsAndQueueKept s t := ⟨h.params, h.pending⟩

/-- An update of the LAPIC record before a step that keeps the fields. -/
theorem of_withLapic {s t : State} {l : Lapic} (h : ParamsAndQueueKept (s.withLapic l) t) : ParamsAndQueueKept s t :=
  ⟨h.params, h.pending⟩

/-- An update of the IOAPIC record before a step that keeps the fields. -/
theorem of_withIoapic {s t : State} {io : IoApic} (h : ParamsAndQueueKept (s.withIoapic io) t) :
    ParamsAndQueueKept s t :=
  ⟨h.params, h.pending⟩

end ParamsAndQueueKept

open ParamsAndQueueKept

/-! ## The frame of a transaction, violations and reads -/

theorem andThen_keepsParamsAndQueue {s t : State} {f : State → State} (h : ParamsAndQueueKept s t)
    (hf : ParamsAndQueueKept t (f t)) : ParamsAndQueueKept s (andThen t f) := by
  cases ht : t.faulted with
  | some c => rw [andThen_faulted ht]; exact h
  | none => rw [andThen_running ht]; exact h.trans hf

/-- A violation keeps the fields where its production fallback does (R182). -/
theorem raiseViolation_keepsParamsAndQueue (c : Violation) {f : State → State} {s : State}
    (hf : ParamsAndQueueKept s (f s)) : ParamsAndQueueKept s (raiseViolation c f s) := by
  cases hd : s.params.diagnostic with
  | true => rw [raiseViolation_diagnostic hd]; exact ⟨rfl, rfl⟩
  | false => rw [raiseViolation_production hd]; exact hf

theorem violatingWrite_keepsParamsAndQueue (c : Violation) (s : State) : ParamsAndQueueKept s (violatingWrite c s) :=
  raiseViolation_keepsParamsAndQueue c (refl s)

theorem violatingRead_keepsParamsAndQueue (c : Violation) (s : State) : ParamsAndQueueKept s (violatingRead c s).1 :=
  raiseViolation_keepsParamsAndQueue c ⟨rfl, rfl⟩

/-- The response of a read is no parameter and no issued transaction. -/
theorem finishRead_keepsParamsAndQueue (f : Word → Response) {s : State} {r : ReadResult}
    (h : ParamsAndQueueKept s r.1) : ParamsAndQueueKept s (finishRead f r) := by
  obtain ⟨t, d⟩ := r
  cases d with
  | none => exact h
  | some w => exact h.trans ⟨rfl, rfl⟩

theorem badWidthRead_keepsParamsAndQueue (f : Word → Response) (s : State) :
    ParamsAndQueueKept s (badWidthRead f s) :=
  finishRead_keepsParamsAndQueue f (violatingRead_keepsParamsAndQueue _ s)

theorem readLapicReg_keepsParamsAndQueue (r : LapicReg) (s : State) : ParamsAndQueueKept s (readLapicReg r s).1 := by
  unfold readLapicReg
  split
  · exact refl s
  · exact violatingRead_keepsParamsAndQueue _ s

theorem lapicRead_keepsParamsAndQueue (off : Offset) (s : State) : ParamsAndQueueKept s (lapicRead off s).1 := by
  unfold lapicRead
  split
  · exact readLapicReg_keepsParamsAndQueue _ s
  · exact violatingRead_keepsParamsAndQueue _ s

/-- R55: the anomaly that the byte read logs is an event only. -/
theorem lapicReadByte_keepsParamsAndQueue (off : Offset) (s : State) : ParamsAndQueueKept s (lapicReadByte off s) :=
  finishRead_keepsParamsAndQueue _
    (.trans (t := logAnomaly .b4ByteAccess s) ⟨rfl, rfl⟩ (lapicRead_keepsParamsAndQueue _ _))

theorem readIowin_keepsParamsAndQueue (r : IowinReg) (s : State) : ParamsAndQueueKept s (readIowin r s).1 := by
  cases r with
  | unknown => exact violatingRead_keepsParamsAndQueue _ s
  | _ => exact refl s

/-! ## The IOAPIC's lines and the IOWIN write -/

theorem checkIrq_keepsParamsAndQueue (i : Line) (s : State) : ParamsAndQueueKept s (checkIrq i s) :=
  of_deliveryStep (checkIrq_step i s).1

theorem setIrq_keepsParamsAndQueue (i : Line) (s : State) : ParamsAndQueueKept s (setIrq i s) := by
  simp only [setIrq]
  split
  · exact refl s
  split
  · exact ⟨rfl, rfl⟩
  · exact of_withIoapic (of_withIoapic (checkIrq_keepsParamsAndQueue i _))

theorem clearIrq_keepsParamsAndQueue (i : Line) (s : State) : ParamsAndQueueKept s (clearIrq i s) := by
  simp only [clearIrq]
  split <;> exact ⟨rfl, rfl⟩

theorem onLine_keepsParamsAndQueue (n : Offset) {f : Line → State → State} (s : State)
    (hf : ∀ i, ParamsAndQueueKept s (f i s)) : ParamsAndQueueKept s (onLine n f s) := by
  unfold onLine
  split
  · exact hf _
  · exact violatingWrite_keepsParamsAndQueue _ s

theorem writeIowin_keepsParamsAndQueue (r : IowinReg) (data : Word) (s : State) :
    ParamsAndQueueKept s (writeIowin r data s) := by
  cases r with
  | id | destination => exact ⟨rfl, rfl⟩
  | version | arbitration | unknown => exact violatingWrite_keepsParamsAndQueue _ s
  | config k => exact of_withIoapic (checkIrq_keepsParamsAndQueue k _)

/-! ## Delivery, interrupt entry and return, the timer -/

theorem checkVector_keepsParamsAndQueue (s : State) : ParamsAndQueueKept s (checkVector s) :=
  ⟨checkVector_params s, checkVector_pending s⟩

theorem dispatchIpi_keepsParamsAndQueue (data icr1 : Word) (s : State) :
    ParamsAndQueueKept s (dispatchIpi data icr1 s) := by
  simp only [dispatchIpi]
  split
  · exact of_deliveryStep (route_step _ s)
  · exact of_deliveryStep (deliver_step _ _ _ s)
  · exact of_deliveryStep (deliver_step _ _ _ s)
  · exact refl s

theorem acknowledge_keepsParamsAndQueue (s : State) : ParamsAndQueueKept s (acknowledge s) := by
  unfold acknowledge
  split <;> exact ⟨rfl, rfl⟩

theorem remoteEoi_keepsParamsAndQueue (v : Vec) (s : State) : ParamsAndQueueKept s (remoteEoi v s) :=
  of_deliveryStep (remoteEoi_step v s).1

theorem endOfInterrupt_keepsParamsAndQueue (s : State) : ParamsAndQueueKept s (endOfInterrupt s) := by
  unfold endOfInterrupt
  split
  · exact ⟨rfl, rfl⟩
  · refine andThen_keepsParamsAndQueue ?_ (checkVector_keepsParamsAndQueue _)
    split
    · exact of_withLapic (remoteEoi_keepsParamsAndQueue _ _)
    · exact ⟨rfl, rfl⟩

theorem expire_keepsParamsAndQueue (past : Nat) (s : State) : ParamsAndQueueKept s (expire past s) := by
  rcases expire_cases past s with ⟨_, h⟩ | ⟨_, h⟩ | ⟨_, h⟩ <;> rw [h]
  · exact of_withLapic (of_deliveryStep (fireTimer_step _))
  · exact of_withLapic (of_deliveryStep (fireTimer_step _))
  · exact raiseViolation_keepsParamsAndQueue _ ⟨rfl, rfl⟩

theorem timer_keepsParamsAndQueue (now : Nat) (s : State) : ParamsAndQueueKept s (timer now s) := by
  by_cases ha : Advances now s.lapic
  · by_cases hc : timerSteps s.lapic now < s.lapic.timerCurrent
    · rw [timer_counts ha hc]; exact ⟨rfl, rfl⟩
    · rw [timer_expires ha hc]; exact of_withLapic (expire_keepsParamsAndQueue _ _)
  · rw [timer_idle ha]; exact refl s

/-! ## Transactions -/

/-- The body of every transaction keeps the fields: reads, writes that violate, and the operations above; every other
body only stores into a unit's record or the response. -/
theorem body_keepsParamsAndQueue (i : Instr) (s : State) : ParamsAndQueueKept s (body i s) := by
  cases i with
  | r32LapicId | r32LapicVersion | r32LapicTpr | r32LapicEoi | r32LapicLdr | r32LapicDfr | r32LapicSvr | r32LapicIsr
  | r32LapicTmr | r32LapicIrr | r32LapicError | r32LapicIcrLow | r32LapicIcrHigh | r32LapicLvtTimer | r32LapicLvtPerf
  | r32LapicLvtInt0 | r32LapicLvtInt1 | r32LapicLvtError | r32LapicTimerInitial | r32LapicTimerCurrent
  | r32LapicTimerDivide =>
    dsimp only [body]
    exact finishRead_keepsParamsAndQueue _ (readLapicReg_keepsParamsAndQueue _ s)
  | r32LapicUnlisted | r32IoapicUnlisted =>
    exact finishRead_keepsParamsAndQueue _ (violatingRead_keepsParamsAndQueue _ s)
  | r16Lapic | r64Lapic | r8Ioapic | r16Ioapic | r64Ioapic => exact badWidthRead_keepsParamsAndQueue _ s
  | r8Lapic off => exact lapicReadByte_keepsParamsAndQueue off s
  | w32LapicVersion | w32LapicIsr | w32LapicTmr | w32LapicIrr | w32LapicTimerCurrent | w32LapicUnlisted | w8Lapic
  | w16Lapic | w64Lapic | w32IoapicUnlisted | w8Ioapic | w16Ioapic | w64Ioapic =>
    exact violatingWrite_keepsParamsAndQueue _ s
  | r32Iowin | r32IowinId | r32IowinVersion | r32IowinArbitration | r32IowinRedirection =>
    exact finishRead_keepsParamsAndQueue _ (readIowin_keepsParamsAndQueue _ s)
  | w32Iowin data | w32IowinId data | w32IowinReadOnly data | w32IowinConfig data | w32IowinDestination data =>
    exact writeIowin_keepsParamsAndQueue _ data s
  | iowinUnknown write =>
    cases write with
    | none => exact finishRead_keepsParamsAndQueue _ (readIowin_keepsParamsAndQueue _ s)
    | some data => exact writeIowin_keepsParamsAndQueue _ data s
  | w32LapicTpr => exact of_withLapic (checkVector_keepsParamsAndQueue _)
  | w32LapicEoi => exact endOfInterrupt_keepsParamsAndQueue s
  | w32LapicIcrLow data => exact of_withLapic (dispatchIpi_keepsParamsAndQueue data _ _)
  | raiseLine line => exact onLine_keepsParamsAndQueue line s fun i => setIrq_keepsParamsAndQueue i s
  | lowerLine line => exact onLine_keepsParamsAndQueue line s fun i => clearIrq_keepsParamsAndQueue i s
  | ack => exact acknowledge_keepsParamsAndQueue s
  | tick now => exact timer_keepsParamsAndQueue now s
  | route args => exact of_deliveryStep (route_step args s)
  | remoteEoi vector => exact remoteEoi_keepsParamsAndQueue vector s
  | _ => exact ⟨rfl, rfl⟩

/-- An ordinary transaction runs its body on `clearOut s`, and emptying the outputs keeps the fields. -/
theorem exec_ordinary_keepsParamsAndQueue {i : Instr} {s t : State} (hx : exec i s = .next t) (h : Instr.Ordinary i) :
    ParamsAndQueueKept s t := by
  obtain ⟨_, rfl⟩ := exec_ordinary_next h hx
  exact ParamsAndQueueKept.trans ⟨clearOut_params s, clearOut_pending s⟩ (body_keepsParamsAndQueue i _)

/-- RESTORE has a next state where its record is well-formed, the restored one (R176). -/
theorem exec_restore_eq_next_iff {r : Record} {s t : State} :
    exec (.restore r) s = .next t ↔ r.WellFormed ∧ t = restoreState r s := by
  show execRestore r s = .next t ↔ _
  unfold execRestore
  by_cases hr : r.WellFormed
  · rw [if_pos hr]; exact ⟨fun h => ⟨hr, (Host.Outcome.next.inj h).symm⟩, fun ⟨_, h⟩ => by rw [h]⟩
  · rw [if_neg hr]; exact ⟨nofun, fun ⟨h, _⟩ => absurd h hr⟩

theorem exec_keepsParamsAndQueue {i : Instr} {s t : State} (hx : exec i s = .next t) : ParamsAndQueueKept s t := by
  cases i with
  | reset now => cases hx; exact ⟨resetState_params now s, resetState_pending now s⟩
  | restore r =>
    obtain ⟨_, rfl⟩ := exec_restore_eq_next_iff.1 hx
    exact ⟨restoreState_params r s, restoreState_pending r s⟩
  | _ => exact exec_ordinary_keepsParamsAndQueue hx trivial

/-- Settles O10: no transaction changes the parameters or the queue (R9, R182, logs 1 and 4). -/
theorem parametersAndQueueStand : Obligations.ParametersAndQueueStand := by
  intro i s t hx
  obtain ⟨hparams, hpending⟩ := exec_keepsParamsAndQueue hx
  exact ⟨hparams, hpending⟩

end Sys2Proof.Machine

/-! # Family 10_state: what a transaction may change

`Effect i s t` says what an ordinary transaction `i` (every one but RESET and RESTORE) may change of the record of
spec/10_state.md R20: the LAPIC by `LapicEffect`, the IOAPIC by `IoapicEffect`, and `FAULTED` under `DIAGNOSTIC` only
(R44). Each shared operation has the effect of the transaction it serves, then each body, then `exec`; every statement
of the family is a case analysis of these relations. -/

namespace Sys2Proof.Machine

open Sys2Proof.Safety

/-! ## The arbiter, said of the sets -/

/-- R127, R188: the in-place classes compare as the upper nibbles do. -/
theorem priorityClass_lt_iff (a b : BitVec 8) : priorityClass a < priorityClass b ↔ a.toNat / 16 < b.toNat / 16 := by
  have hclass : ∀ c : BitVec 8, (priorityClass c).toNat = 16 * (c.toNat / 16) := by decide
  rw [BitVec.lt_def, hclass, hclass]
  omega

theorem isEligible_of_eligible {l : Lapic} {v : Vec} (h : eligible l = some v) : IsEligible l v := by
  obtain ⟨hreq, hmax, habove, hclass⟩ := (eligible_eq_some_iff l v).1 h
  exact ⟨⟨hreq, hmax⟩, habove, (priorityClass_lt_iff _ _).1 hclass⟩

theorem isHighest_of_highest {b : Bits256} {v : Vec} (h : highest b = some v) : IsHighest b v :=
  (highest_eq_some_iff b v).1 h

/-! ## Operations that keep the record -/

/-- `t` has the units of `s`, and is FAULTED only if `s` is or `DIAGNOSTIC` is true. -/
structure RecordKept (s t : State) : Prop where
  lapic : t.lapic = s.lapic
  ioapic : t.ioapic = s.ioapic
  faulted : t.faulted = s.faulted ∨ s.params.diagnostic = true

theorem RecordKept.refl (s : State) : RecordKept s s := ⟨rfl, rfl, .inl rfl⟩

theorem raiseViolation_recordKept (c : Violation) {f : State → State} {s : State} (hf : RecordKept s (f s)) :
    RecordKept s (raiseViolation c f s) := by
  cases hd : s.params.diagnostic with
  | true => rw [raiseViolation_diagnostic hd]; exact ⟨rfl, rfl, .inr hd⟩
  | false => rw [raiseViolation_production hd]; exact hf

theorem violatingWrite_recordKept (c : Violation) (s : State) : RecordKept s (violatingWrite c s) :=
  raiseViolation_recordKept c (.refl s)

theorem violatingRead_recordKept (c : Violation) (s : State) : RecordKept s (violatingRead c s).1 :=
  raiseViolation_recordKept c ⟨rfl, rfl, .inl rfl⟩

theorem finishRead_recordKept (f : Word → Response) {s : State} {r : ReadResult} (h : RecordKept s r.1) :
    RecordKept s (finishRead f r) := by
  obtain ⟨t, d⟩ := r
  cases d with
  | none => exact h
  | some w => exact ⟨h.lapic, h.ioapic, h.faulted⟩

theorem badWidthRead_recordKept (f : Word → Response) (s : State) : RecordKept s (badWidthRead f s) :=
  finishRead_recordKept f (violatingRead_recordKept _ s)

theorem readLapicReg_recordKept (r : LapicReg) (s : State) : RecordKept s (readLapicReg r s).1 := by
  unfold readLapicReg
  split
  · exact .refl s
  · exact violatingRead_recordKept _ s

theorem lapicReadByte_recordKept (off : Offset) (s : State) : RecordKept s (lapicReadByte off s) := by
  have h : RecordKept (logAnomaly .b4ByteAccess s) (lapicRead (alignedOffset off) (logAnomaly .b4ByteAccess s)).1 := by
    unfold lapicRead
    split
    · exact readLapicReg_recordKept _ _
    · exact violatingRead_recordKept _ _
  exact finishRead_recordKept _ ⟨h.lapic, h.ioapic, h.faulted⟩

theorem readIowin_recordKept (r : IowinReg) (s : State) : RecordKept s (readIowin r s).1 := by
  cases r with
  | unknown => exact violatingRead_recordKept _ s
  | _ => exact .refl s

/-! ## Delivery status -/

/-- No entry of `io'` has delivery status (bit 12, R82) set that is clear in `io`. -/
def StatusNotSet (io io' : IoApic) : Prop :=
  ∀ k : Line, (configOf io' k).getLsbD 12 = true → (configOf io k).getLsbD 12 = true

theorem StatusNotSet.refl (io : IoApic) : StatusNotSet io io := fun _ h => h

theorem StatusNotSet.trans {a b c : IoApic} (h₁ : StatusNotSet a b) (h₂ : StatusNotSet b c) : StatusNotSet a c :=
  fun k h => h₁ k (h₂ k h)

theorem statusNotSet_withCfg {io : IoApic} {k : Line} {w : Word}
    (h : w.getLsbD 12 = true → (configOf io k).getLsbD 12 = true) :
    StatusNotSet io { io with cfg := io.cfg.set k w } := by
  intro j hj
  rw [configOf_withCfg] at hj
  split at hj
  · next hjk => rw [hjk]; exact h hj
  · exact hj

/-- R160: of the IOAPIC, an attempt writes the delivery status of its entry or nothing. -/
theorem attempt_ioapic_cases (i : Line) (cfg : Word) (s : State) :
    (attempt i cfg s).ioapic = s.ioapic ∨
      (attempt i cfg s).ioapic = (setConfig i (clearDelivStatus (configOf s.ioapic i)) s).ioapic := by
  unfold attempt
  generalize hr : (if modeField cfg = 0#3 ∨ modeField cfg = 1#3 then route (entryArgs cfg (destOf s.ioapic i)) s
    else raiseViolation .a4BadDeliveryMode id s) = r
  have hio : r.ioapic = s.ioapic := by
    rw [← hr]; split <;> simp
  cases hf : r.faulted with
  | some c => rw [andThen_faulted hf]; exact .inl hio
  | none => rw [andThen_running hf, setConfig_ioapic, hio]; exact .inr rfl

theorem attempt_statusNotSet (i : Line) (cfg : Word) (s : State) :
    StatusNotSet s.ioapic (attempt i cfg s).ioapic := by
  rcases attempt_ioapic_cases i cfg s with h | h <;> rw [h]
  · exact .refl _
  · refine statusNotSet_withCfg fun h12 => ?_
    rw [getLsbD_clearDelivStatus _ _ (by decide)] at h12
    simp at h12

theorem checkIrq_statusNotSet (i : Line) (s : State) : StatusNotSet s.ioapic (checkIrq i s).ioapic := by
  rcases checkIrq_cases i s with ⟨_, h⟩ | ⟨_, _, _, h⟩ | ⟨_, _, _, _, h⟩ <;> rw [h]
  · exact .refl _
  · exact attempt_statusNotSet i _ (setIoIrr _ s)
  · refine StatusNotSet.trans (statusNotSet_withCfg fun h12 => ?_) (attempt_statusNotSet i _ (setConfig i _ s))
    rw [getLsbD_setRemoteIrr _ _ (by decide)] at h12
    simpa using h12

theorem releaseEntry_statusNotSet (v : Vec) (k : Line) (s : State) :
    StatusNotSet s.ioapic (releaseEntry v k s).ioapic := by
  unfold releaseEntry
  split
  · refine StatusNotSet.trans (statusNotSet_withCfg fun h12 => ?_) (checkIrq_statusNotSet k (setConfig k _ s))
    rw [getLsbD_clearRemoteIrr _ _ (by decide)] at h12
    simpa using h12
  · exact .refl _

theorem remoteEoi_statusNotSet (v : Vec) (s : State) : StatusNotSet s.ioapic (remoteEoi v s).ioapic :=
  remoteEoi_induction (R := fun a b => StatusNotSet a.ioapic b.ioapic) v (fun _ => .refl _) StatusNotSet.trans
    (releaseEntry_statusNotSet v) s

/-! ## What a transaction may do to the LAPIC -/

/-- The transactions that may deliver an interrupt (R125, R186). -/
def MayDeliver (i : Instr) : Prop :=
  (∃ k, i = .raiseLine k) ∨ (∃ d, carrier i = .w32Iowin d) ∨ (∃ d, i = .w32LapicEoi d) ∨ (∃ v, i = .remoteEoi v) ∨
    (∃ n, i = .tick n) ∨ (∃ d, i = .w32LapicIcrLow d) ∨ (∃ a, i = .route a)

/-- R137: `tmr` differs from the TMR of `l` at deliverable vectors only, each of them entering `irr`. -/
def TmrFollowsIrr (l : Lapic) (irr tmr : Bits256) : Prop :=
  ∀ v : Vec, getBit tmr v = getBit l.tmr v ∨ (Deliverable v ∧ getBit l.irr v = false ∧ getBit irr v = true)

theorem TmrFollowsIrr.refl (l : Lapic) : TmrFollowsIrr l l.irr l.tmr := fun _ => .inl rfl

theorem DeliveryStep.tmrFollowsIrr {s t : State} (h : DeliveryStep s t) :
    TmrFollowsIrr s.lapic t.lapic.irr t.lapic.tmr := by
  intro v
  refine (h.tmr v).imp_right fun ⟨hs, ht⟩ => ⟨?_, hs, ht⟩
  rcases h.irr_new v ht with hs' | hv
  · rw [hs] at hs'; cases hs'
  · exact (validVector_iff v).1 hv

/-- The LAPIC after an ordinary transaction that found it as `l`: as it was, or after the transaction's own write, with
deliveries accepted where the transaction may deliver. -/
inductive LapicEffect (l : Lapic) : Instr → Lapic → Prop
  | kept (i : Instr) : LapicEffect l i l
  | id (d : Word) : LapicEffect l (.w32LapicId d) { l with id := d }
  | tpr (d : Word) : LapicEffect l (.w32LapicTpr d) { l with tpr := lowByte d }
  | ldr (d : Word) : LapicEffect l (.w32LapicLdr d) { l with ldr := topByteOnly d }
  | dfr (d : Word) : LapicEffect l (.w32LapicDfr d) { l with dfr := storedDfr d }
  | svr (d : Word) : LapicEffect l (.w32LapicSvr d) { l with svr := d }
  | error (d : Word) : LapicEffect l (.w32LapicError d) { l with readError := l.error, error := 0 }
  | icrHigh (d : Word) : LapicEffect l (.w32LapicIcrHigh d) { l with icr1 := d }
  | lvtTimer (d : Word) : LapicEffect l (.w32LapicLvtTimer d) { l with lvtTimer := d }
  | lvtPerf (d : Word) : LapicEffect l (.w32LapicLvtPerf d) { l with lvtPerf := d }
  | lvtInt0 (d : Word) : LapicEffect l (.w32LapicLvtInt0 d) { l with lvtInt0 := d }
  | lvtInt1 (d : Word) : LapicEffect l (.w32LapicLvtInt1 d) { l with lvtInt1 := d }
  | lvtError (d : Word) : LapicEffect l (.w32LapicLvtError d) { l with lvtError := d }
  | timerDivide (d : Word) : LapicEffect l (.w32LapicTimerDivide d) (setDivider d l)
  | timerInitial (d : Word) (now : Nat) : LapicEffect l (.w32LapicTimerInitial d now) (armTimer d now l)
  | icrLow (d : Word) {irr tmr : Bits256} (h : TmrFollowsIrr l irr tmr) :
      LapicEffect l (.w32LapicIcrLow d) { l with icr0 := storedIcrLow d, irr := irr, tmr := tmr }
  | deliver {i : Instr} (hi : MayDeliver i) {irr tmr : Bits256} (h : TmrFollowsIrr l irr tmr) :
      LapicEffect l i { l with irr := irr, tmr := tmr }
  /-- R144, R145: the count goes down, or is reloaded in the range of the initial count. -/
  | tick (now : Nat) {ref count : Nat} (hc : count ≤ l.timerCurrent ∨ count ≤ l.timerInitial.toNat) {irr tmr : Bits256}
      (h : TmrFollowsIrr l irr tmr) :
      LapicEffect l (.tick now) { l with nextTick := ref, timerCurrent := count, irr := irr, tmr := tmr }
  /-- R129. -/
  | ack {v : Vec} (hv : eligible l = some v) :
      LapicEffect l .ack { l with irr := clearBit l.irr v, isr := setBit l.isr v }
  /-- R131. -/
  | retire (d : Word) {v : Vec} (hv : highest l.isr = some v) {irr tmr : Bits256} (h : TmrFollowsIrr l irr tmr) :
      LapicEffect l (.w32LapicEoi d) { l with isr := clearBit l.isr v, irr := irr, tmr := tmr }

theorem DeliveryStep.lapicEffect {i : Instr} {s t : State} (h : DeliveryStep s t) (hi : MayDeliver i) :
    LapicEffect s.lapic i t.lapic := by
  rw [h.lapic]; exact .deliver hi h.tmrFollowsIrr

/-! ## What a transaction may do to the IOAPIC -/

/-- The REMOTE_EOI of `v`: by itself, or inside the EOI write that retires the level vector `v` (R131, R163). -/
def EndsService (l : Lapic) (i : Instr) (v : Vec) : Prop :=
  i = .remoteEoi v ∨ ((∃ d, i = .w32LapicEoi d) ∧ IsHighest l.isr v ∧ getBit l.tmr v = true)

/-- The IOAPIC after an ordinary transaction that found it as `io`, and the LAPIC as `l`: as it was, or after the
transaction's own store, and then as the check of the line or the scan of the entries may leave it. -/
inductive IoapicEffect (l : Lapic) (io : IoApic) : Instr → IoApic → Prop
  | kept (i : Instr) : IoapicEffect l io i io
  /-- R149. -/
  | select (d : Word) : IoapicEffect l io (.w32Ioregsel d) { io with ioregsel := lowByte d }
  /-- R153. -/
  | id {i : Instr} {d : Word} (hi : carrier i = .w32Iowin d) (hsel : io.ioregsel = 0x00#8) :
      IoapicEffect l io i { io with id := ioIdField d }
  /-- R159. -/
  | destination {i : Instr} {d : Word} (hi : carrier i = .w32Iowin d) (k : Line)
      (hsel : io.ioregsel.toNat = 0x11 + 2 * k.val) :
      IoapicEffect l io i { io with dest := io.dest.set k (topByteOnly d) }
  /-- R158. -/
  | config {i : Instr} {d : Word} (hi : carrier i = .w32Iowin d) (k : Line)
      (hsel : io.ioregsel.toNat = 0x10 + 2 * k.val) {io' : IoApic}
      (hcheck : EntryStep k { io with cfg := io.cfg.set k (mergeConfig d (configOf io k)) } io')
      (hstatus : StatusNotSet { io with cfg := io.cfg.set k (mergeConfig d (configOf io k)) } io') :
      IoapicEffect l io i io'
  /-- R161. -/
  | raised {i : Instr} (k : Line) (hi : i = .raiseLine (BitVec.ofNat 20 k.val)) {irr : BitVec 24} {io' : IoApic}
      (hirr : irr = io.irr ∨ irr = setLine io.irr k)
      (hcheck : EntryStep k { io with irqValue := setLine io.irqValue k, irr := irr } io')
      (hstatus : StatusNotSet { io with irqValue := setLine io.irqValue k, irr := irr } io') :
      IoapicEffect l io i io'
  /-- R162. -/
  | lowered {i : Instr} (k : Line) (hi : i = .lowerLine (BitVec.ofNat 20 k.val)) {irr : BitVec 24}
      (hirr : irr = io.irr ∨ ((configOf io k).getLsbD 15 = true ∧ irr = clearLine io.irr k)) :
      IoapicEffect l io i { io with irqValue := clearLine io.irqValue k, irr := irr }
  /-- R163. -/
  | released {i : Instr} {v : Vec} (hi : EndsService l i v) {io' : IoApic} (hscan : ScanStep (Released v) io io')
      (hstatus : StatusNotSet io io') : IoapicEffect l io i io'

/-! ## What a transaction may do to the record -/

/-- What the ordinary transaction `i` may change from `s` to `t`. -/
structure Effect (i : Instr) (s t : State) : Prop where
  lapic : LapicEffect s.lapic i t.lapic
  ioapic : IoapicEffect s.lapic s.ioapic i t.ioapic
  faulted : t.faulted = s.faulted ∨ s.params.diagnostic = true

theorem RecordKept.effect {s t : State} (h : RecordKept s t) (i : Instr) : Effect i s t where
  lapic := by rw [h.lapic]; exact .kept i
  ioapic := by rw [h.ioapic]; exact .kept i
  faulted := h.faulted

/-- A transaction that only answers or logs. -/
theorem withOut_effect (i : Instr) (s : State) (o : Output) : Effect i s (s.withOut o) := ⟨.kept i, .kept i, .inl rfl⟩

/-- A register write (R123). -/
theorem withLapic_effect {i : Instr} {s : State} {l : Lapic} (h : LapicEffect s.lapic i l) :
    Effect i s (s.withLapic l) := ⟨h, .kept i, .inl rfl⟩

theorem DeliveryStep.faults_or {s t : State} (h : DeliveryStep s t) :
    t.faulted = s.faulted ∨ s.params.diagnostic = true := h.faulted.imp_right And.left

/-- The index that selects the ID (R75). -/
theorem ioregsel_of_id {sel : BitVec 8} (h : iowinRegAt sel = .id) : sel = 0x00#8 := by
  by_contra hne
  simp only [iowinRegAt, hne, if_false] at h
  split_ifs at h

theorem writeIowin_effect {i : Instr} {d : Word} (hi : carrier i = .w32Iowin d) (s : State) :
    Effect i s (writeIowin (selected s) d s) := by
  unfold selected
  cases hsel : iowinRegAt s.ioapic.ioregsel with
  | id => exact ⟨.kept i, .id hi (ioregsel_of_id hsel), .inl rfl⟩
  | version | arbitration | unknown => exact (violatingWrite_recordKept _ s).effect i
  | destination k => exact ⟨.kept i, .destination hi k (ioregsel_of_destination hsel), .inl rfl⟩
  | config k =>
    have hstore := deliveryStep_withIoapic s
      { s.ioapic with cfg := s.ioapic.cfg.set k (mergeConfig d (configOf s.ioapic k)) }
    obtain ⟨hdelivery, hcheck, _⟩ := checkIrq_step k (setConfig k (mergeConfig d (configOf s.ioapic k)) s)
    have hstep := hstore.trans hdelivery
    exact ⟨hstep.lapicEffect (by simp [MayDeliver, hi]),
      .config hi k (ioregsel_of_config hsel) hcheck (checkIrq_statusNotSet k _), hstep.faults_or⟩

/-- A line number below 24 is the line's, in the operand's 20 bits (R161, R162). -/
theorem ofNat_line_eq (n : Offset) (h : n.toNat < 24) : BitVec.ofNat 20 (⟨n.toNat, h⟩ : Line).val = n := by simp

theorem setIrq_effect (k : Line) (s : State) : Effect (.raiseLine (BitVec.ofNat 20 k.val)) s (setIrq k s) := by
  have hio : ∀ irr : BitVec 24, DeliveryStep s (s.withIoapic
      { s.ioapic with irqValue := setLine s.ioapic.irqValue k, irr := irr }) := fun _ => deliveryStep_withIoapic s _
  simp only [setIrq]
  split
  · exact (RecordKept.refl s).effect _
  split
  · exact ⟨.kept _, .raised k rfl (.inl rfl) (.refl _ _) (.refl _), .inl rfl⟩
  · obtain ⟨hdelivery, hcheck, _⟩ :=
      checkIrq_step k (setIoIrr (setLine s.ioapic.irr k) (setIrqValue (setLine s.ioapic.irqValue k) s))
    have hstep := (hio _).trans hdelivery
    exact ⟨hstep.lapicEffect (by simp [MayDeliver]), .raised k rfl (.inr rfl) hcheck (checkIrq_statusNotSet k _),
      hstep.faults_or⟩

theorem clearIrq_effect (k : Line) (s : State) : Effect (.lowerLine (BitVec.ofNat 20 k.val)) s (clearIrq k s) := by
  simp only [clearIrq]
  split
  · next hlevel => exact ⟨.kept _, .lowered k rfl (.inr ⟨hlevel, rfl⟩), .inl rfl⟩
  · exact ⟨.kept _, .lowered k rfl (.inl rfl), .inl rfl⟩

/-- An operation on a line has its effect, and a line number from 24 up is a violation (R161, R162). -/
theorem onLine_effect {mk : Offset → Instr} {f : Line → State → State} (n : Offset) (s : State)
    (hf : ∀ k : Line, Effect (mk (BitVec.ofNat 20 k.val)) s (f k s)) : Effect (mk n) s (onLine n f s) := by
  unfold onLine
  split
  · next hn =>
    have hk := hf ⟨n.toNat, hn⟩
    rwa [ofNat_line_eq n hn] at hk
  · exact (violatingWrite_recordKept _ s).effect _

theorem remoteEoi_effect (v : Vec) (s : State) : Effect (.remoteEoi v) s (remoteEoi v s) := by
  obtain ⟨hstep, hscan⟩ := remoteEoi_step v s
  exact ⟨hstep.lapicEffect (by simp [MayDeliver]), .released (.inl rfl) hscan (remoteEoi_statusNotSet v s),
    hstep.faults_or⟩

theorem route_effect (a : RouteArgs) (s : State) : Effect (.route a) s (route a s) := by
  have hstep := route_step a s
  refine ⟨hstep.lapicEffect (by simp [MayDeliver]), ?_, hstep.faults_or⟩
  rw [route_ioapic]; exact .kept _

/-- R133: the dispatch is a delivery or nothing. -/
theorem dispatchIpi_step (data icr1 : Word) (s : State) :
    DeliveryStep s (dispatchIpi data icr1 s) ∧ (dispatchIpi data icr1 s).ioapic = s.ioapic := by
  simp only [dispatchIpi]
  split
  · exact ⟨route_step _ s, route_ioapic _ s⟩
  · exact ⟨deliver_step _ _ _ s, deliver_ioapic _ _ _ s⟩
  · exact ⟨deliver_step _ _ _ s, deliver_ioapic _ _ _ s⟩
  · exact ⟨.refl s, rfl⟩

theorem writeIcrLow_effect (d : Word) (s : State) : Effect (.w32LapicIcrLow d) s (writeIcrLow d s) := by
  obtain ⟨hstep, hio⟩ :=
    dispatchIpi_step d s.lapic.icr1 (s.withLapic { s.lapic with icr0 := storedIcrLow d })
  unfold writeIcrLow
  refine ⟨?_, ?_, hstep.faults_or⟩
  · rw [hstep.lapic]; exact .icrLow d hstep.tmrFollowsIrr
  · rw [hio]; exact .kept _

theorem acknowledge_effect (s : State) : Effect .ack s (acknowledge s) := by
  unfold acknowledge
  split
  · exact withOut_effect _ s _
  · next v hv => exact ⟨.ack hv, .kept _, .inl rfl⟩

theorem andThen_checkVector_effect {i : Instr} {s t : State} (h : Effect i s t) : Effect i s (andThen t checkVector) := by
  cases ht : t.faulted with
  | some c => rw [andThen_faulted ht]; exact h
  | none =>
    rw [andThen_running ht]
    exact ⟨by rw [checkVector_lapic]; exact h.lapic, by rw [checkVector_ioapic]; exact h.ioapic,
      by rw [checkVector_faulted]; exact h.faulted⟩

theorem endOfInterrupt_effect (d : Word) (s : State) : Effect (.w32LapicEoi d) s (endOfInterrupt s) := by
  unfold endOfInterrupt
  split
  · exact withOut_effect _ s _
  · next v hv =>
    refine andThen_checkVector_effect ?_
    split
    · next hlevel =>
      obtain ⟨hstep, hscan⟩ := remoteEoi_step v (s.withLapic { s.lapic with isr := clearBit s.lapic.isr v })
      have hstatus := remoteEoi_statusNotSet v (s.withLapic { s.lapic with isr := clearBit s.lapic.isr v })
      refine ⟨?_, .released (.inr ⟨⟨d, rfl⟩, isHighest_of_highest hv, hlevel⟩) hscan hstatus, hstep.faults_or⟩
      rw [hstep.lapic]; exact .retire d hv hstep.tmrFollowsIrr
    · exact withLapic_effect (.retire d hv (.refl s.lapic))

theorem reloadCount_le (initial past : Nat) : reloadCount initial past ≤ initial := by
  by_cases h : initial = 0
  · simp [reloadCount, h]
  · exact (reloadCount_bounds h).2

/-- R145: the delivery of an expiry that leaves the count in its range. -/
theorem fireTimer_effect (now : Nat) {ref count : Nat} {s : State}
    (hc : count ≤ s.lapic.timerCurrent ∨ count ≤ s.lapic.timerInitial.toNat) :
    Effect (.tick now) s (fireTimer (s.withLapic { s.lapic with nextTick := ref, timerCurrent := count })) := by
  have hstep := fireTimer_step (s.withLapic { s.lapic with nextTick := ref, timerCurrent := count })
  refine ⟨?_, ?_, hstep.faults_or⟩
  · rw [hstep.lapic]; exact .tick now hc hstep.tmrFollowsIrr
  · rw [fireTimer_ioapic]; exact .kept _

/-- R144, R145: the time base alone, or with a count in its range. -/
theorem timer_effect (now : Nat) (s : State) : Effect (.tick now) s (timer now s) := by
  by_cases ha : Advances now s.lapic
  · by_cases hc : timerSteps s.lapic now < s.lapic.timerCurrent
    · rw [timer_counts ha hc]
      exact withLapic_effect (.tick now (.inl (Nat.sub_le _ _)) (.refl s.lapic))
    · rw [timer_expires ha hc]
      rcases expire_cases (timerSteps s.lapic now - s.lapic.timerCurrent) (consumed now s) with
        ⟨_, h⟩ | ⟨_, h⟩ | ⟨_, h⟩ <;> rw [h]
      · exact fireTimer_effect now (.inl (Nat.zero_le _))
      · exact fireTimer_effect now (.inr (reloadCount_le _ _))
      · cases hd : (consumed now s).params.diagnostic with
        | true =>
          rw [raiseViolation_diagnostic hd]
          exact ⟨.tick now (.inl (Nat.le_refl _)) (.refl s.lapic), .kept _, .inr hd⟩
        | false =>
          rw [raiseViolation_production hd]
          exact withLapic_effect (.tick now (.inl (Nat.zero_le _)) (.refl s.lapic))
  · rw [timer_idle ha]; exact (RecordKept.refl s).effect _

/-- The body of every ordinary transaction has its effect. -/
theorem body_effect (i : Instr) (s : State) : Effect i s (body i s) := by
  cases i with
  | r32LapicId | r32LapicVersion | r32LapicTpr | r32LapicEoi | r32LapicLdr | r32LapicDfr | r32LapicSvr | r32LapicIsr
  | r32LapicTmr | r32LapicIrr | r32LapicError | r32LapicIcrLow | r32LapicIcrHigh | r32LapicLvtTimer | r32LapicLvtPerf
  | r32LapicLvtInt0 | r32LapicLvtInt1 | r32LapicLvtError | r32LapicTimerInitial | r32LapicTimerCurrent
  | r32LapicTimerDivide =>
    dsimp only [body]
    exact (finishRead_recordKept _ (readLapicReg_recordKept _ s)).effect _
  | r32LapicUnlisted | r32IoapicUnlisted => exact (finishRead_recordKept _ (violatingRead_recordKept _ s)).effect _
  | r16Lapic | r64Lapic | r8Ioapic | r16Ioapic | r64Ioapic => exact (badWidthRead_recordKept _ s).effect _
  | r8Lapic off => exact (lapicReadByte_recordKept off s).effect _
  | w32LapicVersion | w32LapicIsr | w32LapicTmr | w32LapicIrr | w32LapicTimerCurrent | w32LapicUnlisted | w8Lapic
  | w16Lapic | w64Lapic | w32IoapicUnlisted | w8Ioapic | w16Ioapic | w64Ioapic =>
    exact (violatingWrite_recordKept _ s).effect _
  | r32Iowin | r32IowinId | r32IowinVersion | r32IowinArbitration | r32IowinRedirection =>
    exact (finishRead_recordKept _ (readIowin_recordKept _ s)).effect _
  | r32Ioregsel | snapshot => exact withOut_effect _ s _
  | reset | restore => exact (RecordKept.refl s).effect _
  | w32LapicId d => exact withLapic_effect (.id d)
  | w32LapicTpr d =>
    refine ⟨?_, ?_, .inl (checkVector_faulted _)⟩
    · rw [body, checkVector_lapic]; exact .tpr d
    · rw [body, checkVector_ioapic]; exact .kept _
  | w32LapicLdr d => exact withLapic_effect (.ldr d)
  | w32LapicDfr d => exact withLapic_effect (.dfr d)
  | w32LapicSvr d => exact withLapic_effect (.svr d)
  | w32LapicError d => exact withLapic_effect (.error d)
  | w32LapicIcrHigh d => exact withLapic_effect (.icrHigh d)
  | w32LapicLvtTimer d => exact withLapic_effect (.lvtTimer d)
  | w32LapicLvtPerf d => exact withLapic_effect (.lvtPerf d)
  | w32LapicLvtInt0 d => exact withLapic_effect (.lvtInt0 d)
  | w32LapicLvtInt1 d => exact withLapic_effect (.lvtInt1 d)
  | w32LapicLvtError d => exact withLapic_effect (.lvtError d)
  | w32LapicTimerDivide d => exact withLapic_effect (.timerDivide d)
  | w32LapicTimerInitial d now => exact withLapic_effect (.timerInitial d now)
  | w32LapicIcrLow d => exact writeIcrLow_effect d s
  | w32LapicEoi d => exact endOfInterrupt_effect d s
  | w32Ioregsel d => exact ⟨.kept _, .select d, .inl rfl⟩
  | w32Iowin d | w32IowinId d | w32IowinReadOnly d | w32IowinConfig d | w32IowinDestination d =>
    exact writeIowin_effect rfl s
  | iowinUnknown write =>
    cases write with
    | none => exact (finishRead_recordKept _ (readIowin_recordKept _ s)).effect _
    | some d => exact writeIowin_effect rfl s
  | raiseLine n => exact onLine_effect n s fun k => setIrq_effect k s
  | lowerLine n => exact onLine_effect n s fun k => clearIrq_effect k s
  | ack => exact acknowledge_effect s
  | tick now => exact timer_effect now s
  | route a => exact route_effect a s
  | remoteEoi v => exact remoteEoi_effect v s

/-- The effect of an ordinary transaction; emptying the outputs is no part of it. -/
theorem exec_effect {i : Instr} {s t : State} (hx : exec i s = .next t) (hi : Instr.Ordinary i) : Effect i s t := by
  obtain ⟨_, rfl⟩ := exec_ordinary_next hi hx
  obtain ⟨hlapic, hioapic, hfaulted⟩ := body_effect i (clearOut s)
  exact ⟨hlapic, hioapic, hfaulted⟩

/-! ## Well-formed records (R47) -/

/-- R85: every divider code has a shift in R47's range. -/
theorem dividerShift_le (code : BitVec 3) : dividerShift code ≤ 7 := by
  revert code; decide

/-- R105, R159: bits 23:0 are not stored. -/
theorem extractLsb'_topByteOnly (w : Word) : (topByteOnly w).extractLsb' 0 24 = 0#24 := by
  rw [topByteOnly, BitVec.extractLsb'_and, show (0xFF000000#32).extractLsb' 0 24 = 0#24 by decide, BitVec.and_zero]

/-- R38: a destination word is as it was, or has been stored by the IOWIN write at its index. -/
theorem IoapicEffect.destOf_cases {l : Lapic} {io io' : IoApic} {i : Instr} (h : IoapicEffect l io i io') (k : Line) :
    destOf io' k = destOf io k ∨
      ∃ d, carrier i = .w32Iowin d ∧ io.ioregsel.toNat = 0x11 + 2 * k.val ∧ destOf io' k = topByteOnly d := by
  cases h with
  | kept | select | id | lowered => exact .inl rfl
  | destination hi j hsel =>
    by_cases hk : k = j
    · subst hk; exact .inr ⟨_, hi, hsel, by rw [destOf_withDest, if_pos rfl]⟩
    · exact .inl (by rw [destOf_withDest, if_neg hk])
  | config _ _ _ hcheck | raised _ _ _ hcheck => exact .inl (by simp only [destOf, hcheck.dest])
  | released _ hscan => exact .inl (by simp only [destOf, hscan.dest])

/-- R33, R35, R47: the divider's shift and the count stay in range. -/
theorem LapicEffect.timer_bounds {l l' : Lapic} {i : Instr} (h : LapicEffect l i l') (hshift : l.timerShift ≤ 7)
    (hcount : l.timerCurrent < 2 ^ 32) : l'.timerShift ≤ 7 ∧ l'.timerCurrent < 2 ^ 32 := by
  cases h with
  | timerDivide d => exact ⟨dividerShift_le _, hcount⟩
  | timerInitial d now => exact ⟨hshift, d.isLt⟩
  | tick now hc =>
    have hinitial := l.timerInitial.isLt
    exact ⟨hshift, hc.elim (fun hle => Nat.lt_of_le_of_lt hle hcount) (fun hle => Nat.lt_of_le_of_lt hle hinitial)⟩
  | _ => exact ⟨hshift, hcount⟩

theorem Effect.recordWellFormed {i : Instr} {s t : State} (h : Effect i s t) (hs : RecordWellFormed s) :
    RecordWellFormed t := by
  obtain ⟨hshift, hcount, hdest⟩ := hs
  obtain ⟨hshift', hcount'⟩ := h.lapic.timer_bounds hshift hcount
  refine ⟨hshift', hcount', fun k => ?_⟩
  show (destOf t.ioapic k).extractLsb' 0 24 = 0#24
  rcases h.ioapic.destOf_cases k with hkept | ⟨d, _, _, hstored⟩
  · rw [hkept]; exact hdest k
  · rw [hstored, extractLsb'_topByteOnly]

/-- R47, R201: what RESET leaves is well-formed, whatever the time. -/
theorem resetRecord_wellFormed (now : Nat) : Record.WellFormed { lapic := lapicReset now, ioapic := ioapicReset } := by
  have hdest : ∀ k : Line, (ioapicReset.dest[k]).extractLsb' 0 24 = 0#24 := by decide
  exact ⟨by simp [lapicReset], by simp [lapicReset], hdest⟩

/-- R176: whatever RESTORE installs is well-formed. -/
theorem exec_restore_recordWellFormed {r : Record} {s t : State} (hx : exec (.restore r) s = .next t) :
    RecordWellFormed t := by
  obtain ⟨hr, rfl⟩ := exec_restore_eq_next_iff.1 hx
  exact hr

theorem exec_recordWellFormed {i : Instr} {s t : State} (hx : exec i s = .next t) (hs : RecordWellFormed s) :
    RecordWellFormed t := by
  cases i with
  | reset now => cases hx; exact resetRecord_wellFormed now
  | restore r => exact exec_restore_recordWellFormed hx
  | _ => exact (exec_effect hx trivial).recordWellFormed hs

/-- R60, R61, R69 (log 1, log 2): a step that has a next state is idle, or runs the oldest transaction, which decodes. -/
theorem step_next_cases {s t : State} (h : step s = .next t) :
    (s.pending = [] ∧ t = idle s) ∨
    ∃ tx rest i, s.pending = tx :: rest ∧ decode tx = .ok i ∧ exec i (s.withPending rest) = .next t := by
  unfold step fetch at h
  cases hq : s.pending with
  | nil =>
    simp only [hq] at h
    cases h
    exact .inl ⟨rfl, rfl⟩
  | cons tx rest =>
    simp only [hq] at h
    cases hd : decode tx with
    | ok i =>
      simp only [hd] at h
      exact .inr ⟨tx, rest, i, rfl, hd, h⟩
    | error why =>
      simp only [hd] at h
      cases h

/-- Settles O60: the queue is no part of the record, so a step keeps it well-formed as its transaction does. -/
theorem stepKeepsTheRecordWellFormed : Obligations.StepKeepsTheRecordWellFormed := by
  refine ⟨fun s t hs hstep => ?_, fun s t r hx => exec_restore_recordWellFormed hx⟩
  rcases step_next_cases hstep with ⟨_, rfl⟩ | ⟨_, rest, i, _, _, hx⟩
  · exact hs
  · exact exec_recordWellFormed hx hs

/-- R127: with no request no vector is eligible. -/
theorem eligible_of_irr_zero {l : Lapic} (h : l.irr = 0#256) : eligible l = none := by
  have hnone : highest l.irr = none := (highest_eq_none_iff _).2 fun u => by rw [h]; exact BitVec.getLsbD_zero
  unfold eligible
  rw [hnone]

/-- Settles O56. -/
theorem resetStateIsWellFormed : Obligations.ResetStateIsWellFormed := by
  have hintr : intr State.reset = false := by
    unfold intr
    rw [eligible_of_irr_zero rfl]
    rfl
  exact ⟨resetRecord_wellFormed 0, rfl, hintr, rfl⟩

/-! ## FAULTED (R44) -/

/-- R182: only `DIAGNOSTIC` lets a transaction leave the block FAULTED. -/
theorem exec_faulted_diagnostic {i : Instr} {s t : State} (hx : exec i s = .next t) (ht : t.faulted ≠ none) :
    s.params.diagnostic = true := by
  have hordinary : Instr.Ordinary i → s.params.diagnostic = true := fun hi => by
    obtain ⟨hrun, _⟩ := exec_ordinary_next hi hx
    exact (exec_effect hx hi).faulted.resolve_left fun hf => ht (hf.trans hrun)
  cases i with
  | reset now => cases hx; exact absurd rfl ht
  | restore r =>
    obtain ⟨_, rfl⟩ := exec_restore_eq_next_iff.1 hx
    exact absurd rfl ht
  | _ => exact hordinary trivial

/-- R182: a FAULTED block refuses every ordinary transaction. -/
theorem exec_ordinary_faulted {i : Instr} {s : State} (hi : Instr.Ordinary i) (hs : s.faulted ≠ none) :
    exec i s = .refused .blockFaulted := by
  obtain ⟨c, hc⟩ := Option.ne_none_iff_exists'.1 hs
  rw [exec_ordinary i s hi, transact_faulted hc]

/-- Settles O8. -/
theorem faultedBlockAcceptsOnlyResetAndRestore : Obligations.FaultedBlockAcceptsOnlyResetAndRestore :=
  ⟨fun _ _ _ hx ht => exec_faulted_diagnostic hx ht,
    fun _ _ hs hreset hrestore => exec_ordinary_faulted (ordinary_of_ne hreset hrestore) hs,
    fun n s => ⟨resetState n s, rfl, rfl⟩,
    fun r s hr => ⟨restoreState r s, exec_restore_eq_next_iff.2 ⟨hr, rfl⟩, rfl⟩,
    rfl⟩

/-! ## The LAPIC's registers (R21 to R36) -/

/-- R27: ISR is as it was, or has gained the eligible vector by ACK, or has lost its highest by the EOI write. -/
theorem LapicEffect.isr_cases {l l' : Lapic} {i : Instr} (h : LapicEffect l i l') :
    l'.isr = l.isr ∨ (i = .ack ∧ ∃ v, eligible l = some v ∧ l'.isr = setBit l.isr v) ∨
      ((∃ d, i = .w32LapicEoi d) ∧ ∃ v, highest l.isr = some v ∧ l'.isr = clearBit l.isr v) := by
  cases h with
  | ack hv => exact .inr (.inl ⟨rfl, _, hv, rfl⟩)
  | retire d hv => exact .inr (.inr ⟨⟨d, rfl⟩, _, hv, rfl⟩)
  | _ => exact .inl rfl

theorem LapicEffect.irr_cases {l l' : Lapic} {i : Instr} (h : LapicEffect l i l') :
    l'.irr = l.irr ∨ i = .ack ∨ MayDeliver i := by
  cases h with
  | ack => exact .inr (.inl rfl)
  | deliver hi => exact .inr (.inr hi)
  | icrLow | tick | retire => simp [MayDeliver]
  | _ => exact .inl rfl

/-- R137: TMR changes at a vector only where a delivery of it is accepted. -/
theorem LapicEffect.tmr_cases {l l' : Lapic} {i : Instr} (h : LapicEffect l i l') (v : Vec) :
    getBit l'.tmr v = getBit l.tmr v ∨
      (MayDeliver i ∧ Deliverable v ∧ getBit l.irr v = false ∧ getBit l'.irr v = true) := by
  cases h with
  | deliver hi h => exact (h v).imp_right fun hv => ⟨hi, hv⟩
  | icrLow _ h | tick _ _ h | retire _ _ h => exact (h v).imp_right fun hv => ⟨by simp [MayDeliver], hv⟩
  | _ => exact .inl rfl

/-- Settles O18: of the effects on the LAPIC, only a register's own write (and TICK, of the count) changes it. -/
theorem lapicRegistersChangeOnlyByTheirWrites : Obligations.LapicRegistersChangeOnlyByTheirWrites := by
  intro i s t hx hreset hrestore
  have h := (exec_effect hx (ordinary_of_ne hreset hrestore)).lapic
  have hisr : t.lapic.isr = s.lapic.isr ∨ i = .ack ∨ ∃ d, i = .w32LapicEoi d :=
    h.isr_cases.imp_right (Or.imp And.left And.left)
  refine ⟨?_, ?_, ?_, ?_, ?_, ?_, ?_, ?_, ?_, ?_, ?_, ?_, ?_, ?_, ?_, ?_, h.irr_cases, hisr, h.tmr_cases⟩
  all_goals
    generalize t.lapic = l' at h
    cases h <;> simp [setDivider, armTimer]

/-- Settles O38: only ACK of the eligible vector and the EOI write of the highest change ISR, each at its vector. -/
theorem serviceBeginsAtAckAndEndsAtEoi : Obligations.ServiceBeginsAtAckAndEndsAtEoi := by
  intro i s t v hx hreset hrestore
  rcases (exec_effect hx (ordinary_of_ne hreset hrestore)).lapic.isr_cases with
    hkept | ⟨rfl, u, hu, hset⟩ | ⟨heoi, u, hu, hclear⟩
  · rw [hkept]
    exact ⟨fun h₀ h₁ => by simp [h₀] at h₁, fun h₁ h₀ => by simp [h₁] at h₀⟩
  · rw [hset, getBit_setBit]
    refine ⟨fun h₀ h₁ => ?_, fun h₁ h₀ => by simp [h₁] at h₀⟩
    obtain rfl : v = u := by simpa [h₀] using h₁
    exact ⟨rfl, isEligible_of_eligible hu⟩
  · rw [hclear, getBit_clearBit]
    refine ⟨fun h₀ h₁ => by simp [h₀] at h₁, fun h₁ h₀ => ?_⟩
    obtain rfl : v = u := by simpa [h₁] using h₀
    exact ⟨heoi, isHighest_of_highest hu⟩

/-! ## The IOAPIC's config words (R40, R82) -/

/-- The check of one line keeps every bit of every config word but the status bits 12 and 14. -/
theorem EntryStep.getLsbD_configOf {i : Line} {io io' : IoApic} (h : EntryStep i io io') (k : Line) {b : Nat}
    (hb : b < 32) (h12 : b ≠ 12) (h14 : b ≠ 14) : (configOf io' k).getLsbD b = (configOf io k).getLsbD b := by
  by_cases hk : k = i
  · subst hk; exact h.bits b hb h12 h14
  · rw [h.other k hk]

/-- Bit `b` of entry `k` after the IOAPIC's store of a merged config word (R158). -/
theorem getLsbD_configOf_merged (io : IoApic) (j k : Line) (d : Word) {b : Nat} (hb : b < 32)
    (hro : k = j → ¬ (b ≤ 16 ∧ b ≠ 12 ∧ b ≠ 14)) :
    (configOf { io with cfg := io.cfg.set j (mergeConfig d (configOf io j)) } k).getLsbD b =
      (configOf io k).getLsbD b := by
  rw [configOf_withCfg]
  split
  · next hk => subst hk; rw [getLsbD_mergeConfig _ _ _ hb, if_neg (hro rfl)]
  · rfl

/-- R82: bits 31:17 of a config word stand. -/
theorem IoapicEffect.reserved_bits {l : Lapic} {io io' : IoApic} {i : Instr} (h : IoapicEffect l io i io') (k : Line)
    {b : Nat} (hb : b < 32) (h17 : 17 ≤ b) : (configOf io' k).getLsbD b = (configOf io k).getLsbD b := by
  have h12 : b ≠ 12 := by omega
  have h14 : b ≠ 14 := by omega
  cases h with
  | kept | select | id | destination | lowered => rfl
  | config _ j _ hcheck =>
    rw [hcheck.getLsbD_configOf k hb h12 h14, getLsbD_configOf_merged _ _ _ _ hb fun _ => by omega]
  | raised _ _ _ hcheck => exact hcheck.getLsbD_configOf k hb h12 h14
  | released _ hscan => exact hscan.bits k b hb h12 h14

/-- R82: delivery status is not set. -/
theorem IoapicEffect.statusNotSet {l : Lapic} {io io' : IoApic} {i : Instr} (h : IoapicEffect l io i io') :
    StatusNotSet io io' := by
  cases h with
  | kept | select | id | destination | lowered => exact .refl io
  | config _ j _ _ hstatus =>
    refine StatusNotSet.trans (fun k hk => ?_) hstatus
    rwa [getLsbD_configOf_merged _ _ _ _ (by decide) fun _ => by omega] at hk
  | raised _ _ _ _ hstatus => exact hstatus
  | released _ _ hstatus => exact hstatus

/-- Settles O52. -/
theorem reservedConfigBitsStand : Obligations.ReservedConfigBitsStand := by
  intro i s t k hx hreset hrestore
  have h := (exec_effect hx (ordinary_of_ne hreset hrestore)).ioapic
  exact ⟨fun b h17 => h.reserved_bits k b.isLt h17, h.statusNotSet k⟩

/-! ## The IOAPIC's registers and lines (R37 to R43) -/

section
variable {l : Lapic} {io io' : IoApic} {i : Instr}

/-- The IOWIN write of entry `k`'s config word (R158). -/
def WritesConfig (io : IoApic) (i : Instr) (k : Line) : Prop :=
  ∃ d, carrier i = .w32Iowin d ∧ io.ioregsel.toNat = 0x10 + 2 * k.val

/-- The REMOTE_EOI that finds entry `k` in service (R163). -/
def Releases (l : Lapic) (io : IoApic) (i : Instr) (k : Line) : Prop :=
  (configOf io k).getLsbD 14 = true ∧ EndsService l i ((configOf io k).extractLsb' 0 8)

/-- The transactions that check line `k` (R160). -/
def ChecksLine (l : Lapic) (io : IoApic) (i : Instr) (k : Line) : Prop :=
  i = .raiseLine (BitVec.ofNat 20 k.val) ∨ WritesConfig io i k ∨ Releases l io i k

theorem releases_of_released {v : Vec} {k : Line} (hi : EndsService l i v) (h : Released v (configOf io k)) :
    Releases l io i k := by
  obtain ⟨rfl, hirr⟩ := h
  exact ⟨hirr, hi⟩

theorem IoapicEffect.ioregsel_cases (h : IoapicEffect l io i io') :
    io'.ioregsel = io.ioregsel ∨ ∃ d, i = .w32Ioregsel d := by
  cases h with
  | select d => exact .inr ⟨d, rfl⟩
  | kept | id | destination | lowered => exact .inl rfl
  | config _ _ _ hcheck | raised _ _ _ hcheck => exact .inl hcheck.ioregsel
  | released _ hscan => exact .inl hscan.ioregsel

theorem IoapicEffect.id_cases (h : IoapicEffect l io i io') :
    io'.id = io.id ∨ ∃ d, carrier i = .w32Iowin d ∧ io.ioregsel = 0x00#8 := by
  cases h with
  | id hi hsel => exact .inr ⟨_, hi, hsel⟩
  | kept | select | destination | lowered => exact .inl rfl
  | config _ _ _ hcheck | raised _ _ _ hcheck => exact .inl hcheck.id
  | released _ hscan => exact .inl hscan.id

/-- R42: the asserted lines are as they were, or one line is raised, or one is lowered. -/
theorem IoapicEffect.irqValue_cases (h : IoapicEffect l io i io') :
    io'.irqValue = io.irqValue ∨
    (∃ k : Line, i = .raiseLine (BitVec.ofNat 20 k.val) ∧ io'.irqValue = setLine io.irqValue k) ∨
    ∃ k : Line, i = .lowerLine (BitVec.ofNat 20 k.val) ∧ io'.irqValue = clearLine io.irqValue k := by
  cases h with
  | raised k hi _ hcheck => exact .inr (.inl ⟨k, hi, hcheck.irqValue⟩)
  | lowered k hi => exact .inr (.inr ⟨k, hi, rfl⟩)
  | kept | select | id | destination => exact .inl rfl
  | config _ _ _ hcheck => exact .inl hcheck.irqValue
  | released _ hscan => exact .inl hscan.irqValue

/-- R42: an asserted-line bit is set by RAISE of its line only. -/
theorem IoapicEffect.raise_of_asserted (h : IoapicEffect l io i io') {k : Line} (h₀ : io.irqValue.getLsbD k = false)
    (h₁ : io'.irqValue.getLsbD k = true) : i = .raiseLine (BitVec.ofNat 20 k.val) := by
  rcases h.irqValue_cases with he | ⟨j, hi, he⟩ | ⟨j, _, he⟩ <;> rw [he] at h₁
  · rw [h₀] at h₁; cases h₁
  · obtain rfl : k = j := by simpa [-BitVec.getLsbD_eq_getElem, h₀] using h₁
    exact hi
  · simp [-BitVec.getLsbD_eq_getElem, h₀] at h₁

/-- R42: an asserted-line bit is cleared by LOWER of its line only. -/
theorem IoapicEffect.lower_of_deasserted (h : IoapicEffect l io i io') {k : Line} (h₁ : io.irqValue.getLsbD k = true)
    (h₀ : io'.irqValue.getLsbD k = false) : i = .lowerLine (BitVec.ofNat 20 k.val) := by
  rcases h.irqValue_cases with he | ⟨j, _, he⟩ | ⟨j, hi, he⟩ <;> rw [he] at h₀
  · rw [h₁] at h₀; cases h₀
  · simp [-BitVec.getLsbD_eq_getElem, h₁] at h₀
  · obtain rfl : k = j := by simpa [-BitVec.getLsbD_eq_getElem, h₁] using h₀
    exact hi

/-- The check of one line (R160) keeps a pending bit, or clears that of its entry, an unmasked edge entry. -/
theorem EntryStep.irr_cases {j : Line} (h : EntryStep j io io') (k : Line) :
    io'.irr.getLsbD k = io.irr.getLsbD k ∨ (k = j ∧ io'.irr.getLsbD k = false ∧
      (configOf io' k).getLsbD 15 = false ∧ (configOf io' k).getLsbD 16 = false) := by
  refine (h.irr k).imp_right fun ⟨hk, hclear, hedge, hunmasked⟩ => ⟨hk, hclear, ?_⟩
  rw [h.getLsbD_configOf k (by decide) (by decide) (by decide), h.getLsbD_configOf k (by decide) (by decide) (by decide)]
  exact hk ▸ ⟨hedge, hunmasked⟩

/-- R43: a pending bit is as it was, set by RAISE of its line, cleared by LOWER of its level line, or cleared where its
line is checked and is then an unmasked edge entry. -/
theorem IoapicEffect.irr_cases (h : IoapicEffect l io i io') (k : Line) :
    io'.irr.getLsbD k = io.irr.getLsbD k ∨
    (i = .raiseLine (BitVec.ofNat 20 k.val) ∧ io'.irr.getLsbD k = true) ∨
    (i = .lowerLine (BitVec.ofNat 20 k.val) ∧ (configOf io k).getLsbD 15 = true ∧ io'.irr.getLsbD k = false) ∨
    (ChecksLine l io i k ∧ io'.irr.getLsbD k = false ∧
      (configOf io' k).getLsbD 15 = false ∧ (configOf io' k).getLsbD 16 = false) := by
  cases h with
  | kept | select | id | destination => exact .inl rfl
  | config hi j hsel hcheck =>
    rcases hcheck.irr_cases k with he | ⟨rfl, hclear⟩
    · exact .inl he
    · exact .inr (.inr (.inr ⟨.inr (.inl ⟨_, hi, hsel⟩), hclear⟩))
  | raised j hi hirr hcheck =>
    rcases hcheck.irr_cases k with he | ⟨rfl, hclear⟩
    · rw [he]
      by_cases hk : k = j
      · subst hk
        rcases hirr with rfl | rfl
        · exact .inl rfl
        · exact .inr (.inl ⟨hi, by rw [getLsbD_setLine, decide_eq_true rfl, Bool.true_or]⟩)
      · left
        rcases hirr with rfl | rfl
        · rfl
        · rw [getLsbD_setLine, decide_eq_false hk, Bool.false_or]
    · exact .inr (.inr (.inr ⟨.inl hi, hclear⟩))
  | lowered j hi hirr =>
    rcases hirr with rfl | ⟨hlevel, rfl⟩
    · exact .inl rfl
    · by_cases hk : k = j
      · subst hk
        exact .inr (.inr (.inl ⟨hi, hlevel, by rw [getLsbD_clearLine, decide_eq_true rfl, Bool.not_true, Bool.false_and]⟩))
      · exact .inl (by rw [getLsbD_clearLine, decide_eq_false hk, Bool.not_false, Bool.true_and])
  | released hi hscan =>
    rcases hscan.irr k with he | ⟨hclear, hp, hedge, hunmasked⟩
    · exact .inl he
    · refine .inr (.inr (.inr ⟨.inr (.inr (releases_of_released hi hp)), hclear, ?_, ?_⟩))
      · rw [hscan.bits k 15 (by decide) (by decide) (by decide), hedge]
      · rw [hscan.bits k 16 (by decide) (by decide) (by decide), hunmasked]

/-- Two config words that agree away from the status bits have the same writable bits (R82). -/
theorem and_cfgWritable_congr {w w' : Word} (h : ∀ b, b < 32 → b ≠ 12 → b ≠ 14 → w.getLsbD b = w'.getLsbD b) :
    w &&& cfgWritable = w' &&& cfgWritable := by
  apply BitVec.eq_of_getLsbD_eq
  intro b hb
  rw [BitVec.getLsbD_and, BitVec.getLsbD_and, getLsbD_cfgWritable b hb]
  by_cases hw : b ≤ 16 ∧ b ≠ 12 ∧ b ≠ 14
  · rw [h b hb hw.2.1 hw.2.2]
  · rw [decide_eq_false hw, Bool.and_false, Bool.and_false]

/-- R82: the writable bits of a config word change by its IOWIN write only. -/
theorem IoapicEffect.writable_cases (h : IoapicEffect l io i io') (k : Line) :
    configOf io' k &&& cfgWritable = configOf io k &&& cfgWritable ∨ WritesConfig io i k := by
  cases h with
  | kept | select | id | destination | lowered => exact .inl rfl
  | config hi j hsel hcheck =>
    by_cases hk : k = j
    · subst hk; exact .inr ⟨_, hi, hsel⟩
    · exact .inl (by rw [hcheck.other k hk, configOf_withCfg, if_neg hk])
  | raised _ _ _ hcheck => exact .inl (and_cfgWritable_congr fun b hb h12 h14 => hcheck.getLsbD_configOf k hb h12 h14)
  | released _ hscan => exact .inl (and_cfgWritable_congr (hscan.bits k))

/-- R40: a config word changes only where its line is checked. -/
theorem IoapicEffect.configOf_cases (h : IoapicEffect l io i io') (k : Line) :
    configOf io' k = configOf io k ∨ ChecksLine l io i k := by
  cases h with
  | kept | select | id | destination | lowered => exact .inl rfl
  | config hi j hsel hcheck =>
    by_cases hk : k = j
    · subst hk; exact .inr (.inr (.inl ⟨_, hi, hsel⟩))
    · exact .inl (by rw [hcheck.other k hk, configOf_withCfg, if_neg hk])
  | raised j hi _ hcheck =>
    by_cases hk : k = j
    · subst hk; exact .inr (.inl hi)
    · exact .inl (hcheck.other k hk)
  | released hi hscan =>
    exact or_iff_not_imp_right.2 fun hn => hscan.keeps k fun hp => hn (.inr (.inr (releases_of_released hi hp)))

/-- R43: a pending bit is set by RAISE of its line only. -/
theorem IoapicEffect.raise_of_pending (h : IoapicEffect l io i io') {k : Line} (h₀ : io.irr.getLsbD k = false)
    (h₁ : io'.irr.getLsbD k = true) : i = .raiseLine (BitVec.ofNat 20 k.val) := by
  rcases h.irr_cases k with he | ⟨hi, _⟩ | ⟨_, _, hclear⟩ | ⟨_, hclear, _⟩
  · rw [he, h₀] at h₁; cases h₁
  · exact hi
  · rw [hclear] at h₁; cases h₁
  · rw [hclear] at h₁; cases h₁

/-- R43, R160: what clears a pending bit. -/
theorem IoapicEffect.cleared_cases (h : IoapicEffect l io i io') {k : Line} (h₁ : io.irr.getLsbD k = true)
    (h₀ : io'.irr.getLsbD k = false) :
    (i = .lowerLine (BitVec.ofNat 20 k.val) ∧ (configOf io k).getLsbD 15 = true) ∨
      (ChecksLine l io i k ∧ (configOf io' k).getLsbD 15 = false ∧ (configOf io' k).getLsbD 16 = false) := by
  rcases h.irr_cases k with he | ⟨_, hset⟩ | ⟨hi, hlevel, _⟩ | ⟨hi, _, hedge⟩
  · rw [he, h₁] at h₀; cases h₀
  · rw [hset] at h₀; cases h₀
  · exact .inl ⟨hi, hlevel⟩
  · exact .inr ⟨hi, hedge⟩

end

/-- Settles O53: each clause is what one register or line bit may do under the transaction's effect on the IOAPIC. -/
theorem ioapicRegistersChangeOnlyByTheirTransactions : Obligations.IoapicRegistersChangeOnlyByTheirTransactions := by
  intro i s t hx hreset hrestore
  have h := (exec_effect hx (ordinary_of_ne hreset hrestore)).ioapic
  have hdest : ∀ k : Line, destOf t.ioapic k = destOf s.ioapic k ∨
      ∃ d, carrier i = .w32Iowin d ∧ s.ioapic.ioregsel.toNat = 0x11 + 2 * k.val :=
    fun k => (h.destOf_cases k).imp_right fun ⟨d, hi, hsel, _⟩ => ⟨d, hi, hsel⟩
  exact ⟨h.ioregsel_cases, h.id_cases, hdest, fun _ => h.raise_of_asserted, fun _ => h.lower_of_deasserted,
    fun _ => h.raise_of_pending, h.writable_cases, h.configOf_cases, fun _ => h.cleared_cases⟩

end Sys2Proof.Machine

/-! # Family 20_memory: the step and the accesses

A step runs the oldest issued transaction (R60, R61), and the transaction that spells an instruction decodes to it
(R68 to R70), so that issuing it runs it. Then the violating accesses of R55 to R58: the shared operations leave what
`readViolated` and `violated` say, and `atOffset` names the descriptor an offset is carried in. -/

namespace Sys2Proof.Machine

open Sys2Proof.Safety

/-! ## The step (R60, R61) -/

theorem step_idle {s : State} (h : s.pending = []) : step s = .next (quiet s) := by
  have hf : fetch s = none := by unfold fetch; rw [h]
  unfold step
  rw [hf]
  rfl

theorem step_of_decode {s : State} {t : Tx} {rest : List Tx} {i : Instr} (h : s.pending = t :: rest)
    (hd : decode t = .ok i) : step s = exec i (s.withPending rest) := by
  have hf : fetch s = some (t, s.withPending rest) := by unfold fetch; rw [h]
  unfold step
  simp only [hf, hd]

/-- The transaction issued first is the one that runs, on the state it was issued in (log 1). -/
theorem step_issueFirst {s : State} {t : Tx} {i : Instr} (hd : decode t = .ok i) :
    step (issueFirst t s) = exec i s :=
  step_of_decode (issueFirst_pending t s) hd

/-- Settles O6: with a transaction issued and with none. -/
theorem stepRunsTheDecodedInstruction : Obligations.StepRunsTheDecodedInstruction :=
  ⟨fun _ _ _ _ h hd => step_of_decode h hd, fun _ h => step_idle h⟩

/-! ## An instruction's own transaction (R68 to R70) -/

theorem decode_encodeLapicRead (r : LapicReg) : decode (encodeLapicRead r) = .ok (lapicReadOf r) :=
  decode_lapicRead rfl

theorem decode_lapicWrite_zeroExtend {t : Tx} (r : LapicReg) {data : Word}
    (h : t.desc = lapicWrite32 (lapicOffset r)) (hdata : t.data = data.zeroExtend 64) :
    decode t = .ok (lapicWriteOf data t.now r) := by
  rw [decode_lapicWrite h, hdata, extractLsb'_zeroExtend (by decide)]

theorem decode_encodeLapicWrite (r : LapicReg) (data : Word) :
    decode (encodeLapicWrite r data) = .ok (lapicWriteOf data 0 r) :=
  decode_lapicWrite_zeroExtend r rfl rfl

/-- A READ descriptor decodes by its width and its offset (R77). -/
theorem decode_read {t : Tx} {space wcode : BitVec 2} {off : Offset} (h : t.desc = descriptor 0#4 space wcode off) :
    decode t = decodeRead space wcode off := decode_descriptor h

/-- A WRITE descriptor decodes by its width and its offset (R77). -/
theorem decode_write {t : Tx} {space wcode : BitVec 2} {off : Offset} (h : t.desc = descriptor 1#4 space wcode off) :
    decode t = decodeWrite space wcode off t.data t.now := decode_descriptor h

theorem decode_bare_read (space wcode : BitVec 2) (off : Offset) :
    decode (Tx.bare (descriptor 0#4 space wcode off)) = decodeRead space wcode off := decode_read rfl

theorem decode_withData_write (space wcode : BitVec 2) (off : Offset) (data : BitVec 64) :
    decode (Tx.withData (descriptor 1#4 space wcode off) data) = decodeWrite space wcode off data 0 :=
  decode_write rfl

theorem decode_encodeIowinRead : decode encodeIowinRead = .ok .r32Iowin := decode_bare_read _ _ _

/-- A WRITE carries a narrower operand in the low bits of its data (R70). -/
theorem decode_withData_zeroExtend {n : Nat} (hn : n ≤ 64) {space wcode : BitVec 2} {off : Offset}
    (f : BitVec n → Instr) (data : BitVec n)
    (hf : ∀ d now, decodeWrite space wcode off d now = .ok (f (d.extractLsb' 0 n))) :
    decode (Tx.withData (descriptor 1#4 space wcode off) (data.zeroExtend 64)) = .ok (f data) := by
  rw [decode_withData_write, hf, extractLsb'_zeroExtend hn]

theorem decode_encodeIowinWrite (data : Word) : decode (encodeIowinWrite data) = .ok (.w32Iowin data) :=
  decode_withData_zeroExtend (by decide) .w32Iowin data fun _ _ => rfl

/-- R68 to R70, R72 to R76: the transaction that spells a well-formed instruction decodes to it, a row of an IOWIN
register to the IOWIN access (log 9). -/
theorem decode_encode {i : Instr} (hi : i.wellFormed = true) : decode (encode i) = .ok (carrier i) := by
  cases i with
  | r32LapicId | r32LapicVersion | r32LapicTpr | r32LapicEoi | r32LapicLdr | r32LapicDfr | r32LapicSvr | r32LapicIsr
  | r32LapicTmr | r32LapicIrr | r32LapicError | r32LapicIcrLow | r32LapicIcrHigh | r32LapicLvtTimer | r32LapicLvtPerf
  | r32LapicLvtInt0 | r32LapicLvtInt1 | r32LapicLvtError | r32LapicTimerInitial | r32LapicTimerCurrent
  | r32LapicTimerDivide => exact decode_encodeLapicRead _
  | w32LapicId data | w32LapicVersion data | w32LapicTpr data | w32LapicEoi data | w32LapicLdr data | w32LapicDfr data
  | w32LapicSvr data | w32LapicIsr j data | w32LapicTmr j data | w32LapicIrr j data | w32LapicError data
  | w32LapicIcrLow data | w32LapicIcrHigh data | w32LapicLvtTimer data | w32LapicLvtPerf data | w32LapicLvtInt0 data
  | w32LapicLvtInt1 data | w32LapicLvtError data | w32LapicTimerCurrent data | w32LapicTimerDivide data =>
    exact decode_encodeLapicWrite _ data
  | w32LapicTimerInitial data now => exact decode_lapicWrite_zeroExtend .timerInitial rfl rfl
  | r8Lapic | r16Lapic | r64Lapic | r8Ioapic | r16Ioapic | r64Ioapic | r32Ioregsel => exact decode_bare_read _ _ _
  | w64Lapic | w64Ioapic => exact decode_withData_write _ _ _ _
  | w8Lapic off data => exact decode_withData_zeroExtend (by decide) (.w8Lapic off) data fun _ _ => rfl
  | w16Lapic off data => exact decode_withData_zeroExtend (by decide) (.w16Lapic off) data fun _ _ => rfl
  | w8Ioapic off data => exact decode_withData_zeroExtend (by decide) (.w8Ioapic off) data fun _ _ => rfl
  | w16Ioapic off data => exact decode_withData_zeroExtend (by decide) (.w16Ioapic off) data fun _ _ => rfl
  | w32Ioregsel data => exact decode_withData_zeroExtend (by decide) .w32Ioregsel data fun _ _ => rfl
  | r32LapicUnlisted off =>
    exact (decode_bare_read _ _ _).trans (decodeRead_lapicUnlisted (lapicRegAt_of_unlisted hi))
  | r32IoapicUnlisted off => exact (decode_bare_read _ _ _).trans (decodeRead_ioapicUnlisted hi)
  | w32LapicUnlisted off data =>
    exact decode_withData_zeroExtend (by decide) (.w32LapicUnlisted off) data fun _ _ =>
      decodeWrite_lapicUnlisted (lapicRegAt_of_unlisted hi)
  | w32IoapicUnlisted off data =>
    exact decode_withData_zeroExtend (by decide) (.w32IoapicUnlisted off) data fun _ _ => decodeWrite_ioapicUnlisted hi
  | r32Iowin | r32IowinId | r32IowinVersion | r32IowinArbitration | r32IowinRedirection => exact decode_encodeIowinRead
  | w32Iowin data | w32IowinId data | w32IowinReadOnly data | w32IowinConfig data | w32IowinDestination data =>
    exact decode_encodeIowinWrite data
  | iowinUnknown write =>
    cases write with
    | none => exact decode_encodeIowinRead
    | some data => exact decode_encodeIowinWrite data
  | raiseLine n => exact decode_descriptor (t := encode (.raiseLine n)) (kind := 2#4) rfl
  | lowerLine n => exact decode_descriptor (t := encode (.lowerLine n)) (kind := 3#4) rfl
  | ack => exact (decode_descriptor (t := encode .ack) (kind := 4#4) rfl).trans (bareKind_descriptor _ rfl)
  | tick n => exact (decode_descriptor (t := encode (.tick n)) (kind := 5#4) rfl).trans (bareKind_descriptor _ rfl)
  | reset n => exact (decode_descriptor (t := encode (.reset n)) (kind := 6#4) rfl).trans (bareKind_descriptor _ rfl)
  | restore r =>
    exact (decode_descriptor (t := encode (.restore r)) (kind := 7#4) rfl).trans (bareKind_descriptor _ rfl)
  | snapshot => exact (decode_descriptor (t := encode .snapshot) (kind := 8#4) rfl).trans (bareKind_descriptor _ rfl)
  | route a => exact (decode_descriptor (t := encode (.route a)) (kind := 9#4) rfl).trans (bareKind_descriptor _ rfl)
  | remoteEoi v =>
    exact (decode_descriptor (t := encode (.remoteEoi v)) (kind := 10#4) rfl).trans (bareKind_descriptor _ rfl)

/-- A row of an IOWIN register has the body of the IOWIN access (log 9). -/
theorem body_carrier (i : Instr) : body (carrier i) = body i := by
  cases i with
  | iowinUnknown write => cases write <;> rfl
  | _ => rfl

theorem ordinary_carrier {i : Instr} (hi : Instr.Ordinary i) : Instr.Ordinary (carrier i) := by
  cases i with
  | iowinUnknown write => cases write <;> trivial
  | _ => exact hi

theorem exec_carrier_of_ordinary {i : Instr} (hi : Instr.Ordinary i) (s : State) : exec (carrier i) s = exec i s := by
  rw [exec_ordinary _ s (ordinary_carrier hi), exec_ordinary i s hi, body_carrier]

/-- An instruction means what its carrier means. -/
theorem exec_carrier (i : Instr) (s : State) : exec (carrier i) s = exec i s := by
  cases i with
  | reset | restore => rfl
  | _ => refine exec_carrier_of_ordinary ?_ s; trivial

theorem decode_tableTx_of_decodeTableWord {nbits w : Nat} {i : Instr} (h : decodeTableWord nbits w = some i) :
    decode (tableTx nbits w) = .ok i := by
  unfold decodeTableWord at h
  cases hd : decode (tableTx nbits w) with
  | ok j => rw [hd] at h; rw [Option.some.inj h]
  | error why => rw [hd] at h; cases h

/-- Settles O7: the word, or the instruction's own transaction, decodes to what the step runs. -/
theorem issuedWordRunsNext : Obligations.IssuedWordRunsNext :=
  ⟨fun _ _ _ _ hw => step_issueFirst (decode_tableTx_of_decodeTableWord hw),
    fun s i hi => (step_issueFirst (decode_encode hi)).trans (exec_carrier i s)⟩

/-! ## Every transaction completes (R60, R67) -/

/-- R182: an ordinary transaction on a running block completes, and in production the block runs on. -/
theorem exec_ordinary_completes {i : Instr} {s : State} (hi : Instr.Ordinary i) (hs : Running s) :
    ∃ t, exec i s = .next t ∧ (s.params.diagnostic = false → Running t) := by
  have hx := exec_ordinary_running hi hs
  refine ⟨_, hx, fun hprod => Classical.byContradiction fun hfaulted => ?_⟩
  have hdiag := exec_faulted_diagnostic hx hfaulted
  rw [hprod] at hdiag
  cases hdiag

/-- Settles O9: RESET and RESTORE give a running block, every other transaction completes with its body. -/
theorem runningBlockCompletesEveryTransaction : Obligations.RunningBlockCompletesEveryTransaction := by
  intro i s hs hrestore
  cases i with
  | reset now => exact ⟨resetState now s, rfl, fun _ => resetState_faulted now s⟩
  | restore r =>
    exact ⟨restoreState r s, exec_restore_eq_next_iff.2 ⟨hrestore r rfl, rfl⟩,
      fun _ => restoreState_faulted r s⟩
  | _ => exact exec_ordinary_completes trivial hs

/-! ## Reads change no register (R59) -/

/-- The kind code 0 is READ (R68). -/
theorem decode_of_kind_read {t : Tx} {i : Instr} (h : decode t = .ok i) (hk : kindField t.desc = 0#4) :
    decodeRead (spaceField t.desc) (wcodeField t.desc) (offsetField t.desc) = .ok i := by
  have hz : zeroField t.desc = 0#4 := Classical.byContradiction fun hz => by simp [decode, hz] at h
  simpa [decode, hz, hk] using h

theorem ordinary_lapicReadOf (r : LapicReg) : Instr.Ordinary (lapicReadOf r) := by cases r <;> exact trivial

theorem body_lapicReadOf (r : LapicReg) : body (lapicReadOf r) = fun t => finishRead .data32 (readLapicReg r t) := by
  cases r <;> rfl

/-- What a READ decodes to is an ordinary transaction whose body keeps both units. -/
theorem body_recordKept_of_decodeRead {space wcode : BitVec 2} {off : Offset} {i : Instr}
    (h : decodeRead space wcode off = .ok i) : Instr.Ordinary i ∧ ∀ s, RecordKept s (body i s) := by
  unfold decodeRead at h
  split at h
  · cases h; exact ⟨trivial, lapicReadByte_recordKept off⟩
  · cases h; exact ⟨trivial, badWidthRead_recordKept _⟩
  · split at h <;> cases h
    · next r _ =>
      rw [body_lapicReadOf]
      exact ⟨ordinary_lapicReadOf r, fun s => finishRead_recordKept _ (readLapicReg_recordKept r s)⟩
    · exact ⟨trivial, fun s => finishRead_recordKept _ (violatingRead_recordKept _ s)⟩
  · cases h; exact ⟨trivial, fun s => badWidthRead_recordKept _ s⟩
  · cases h; exact ⟨trivial, badWidthRead_recordKept _⟩
  · cases h; exact ⟨trivial, badWidthRead_recordKept _⟩
  · split_ifs at h <;> cases h
    · exact ⟨trivial, fun _ => ⟨rfl, rfl, .inl rfl⟩⟩
    · exact ⟨trivial, fun s => finishRead_recordKept _ (readIowin_recordKept _ s)⟩
    · exact ⟨trivial, fun s => finishRead_recordKept _ (violatingRead_recordKept _ s)⟩
  · cases h; exact ⟨trivial, fun s => badWidthRead_recordKept _ s⟩
  · cases h

/-- Settles O22: kind 0 is READ, and what READ decodes to keeps both units. -/
theorem readsChangeNoRegister : Obligations.ReadsChangeNoRegister := by
  intro s u t i hd hk hx
  obtain ⟨hi, hbody⟩ := body_recordKept_of_decodeRead (decode_of_kind_read hd hk)
  obtain ⟨_, rfl⟩ := exec_ordinary_next hi hx
  exact ⟨(hbody (clearOut s)).lapic, (hbody (clearOut s)).ioapic⟩

/-! ## Violating accesses (R182) -/

theorem finishRead_violatingRead_clearOut (c : Violation) (f : Word → Response) (s : State) :
    finishRead f (violatingRead c (clearOut s)) = readViolated c f s := by
  unfold readViolated violated
  cases hd : s.params.diagnostic with
  | true => rw [violatingRead_diagnostic (s := clearOut s) hd]; rfl
  | false => rw [violatingRead_production (s := clearOut s) hd]; rfl

theorem violatingWrite_clearOut (c : Violation) (s : State) :
    violatingWrite c (clearOut s) = violated c s (quiet s) := by
  unfold violatingWrite violated
  cases hd : s.params.diagnostic with
  | true => rw [raiseViolation_diagnostic (s := clearOut s) hd]; rfl
  | false => rw [raiseViolation_production (s := clearOut s) hd]; rfl

/-- An access whose body is a violating read, on a running block. -/
theorem exec_violatingRead {i : Instr} {s : State} {c : Violation} {f : Word → Response} (hi : Instr.Ordinary i)
    (hs : Running s) (hbody : body i (clearOut s) = finishRead f (violatingRead c (clearOut s))) :
    exec i s = .next (readViolated c f s) := by
  rw [exec_ordinary_running hi hs, hbody, finishRead_violatingRead_clearOut]

/-- An access whose body is a violating write, on a running block. -/
theorem exec_violatingWrite {i : Instr} {s : State} {c : Violation} (hi : Instr.Ordinary i) (hs : Running s)
    (hbody : body i = violatingWrite c) : exec i s = .next (violated c s (quiet s)) := by
  rw [exec_ordinary_running hi hs, hbody, violatingWrite_clearOut]

/-! ## Descriptors at an offset (R68) -/

theorem atOffset_descriptor (kind : BitVec 4) (space wcode : BitVec 2) (off : Offset) :
    atOffset (descriptor kind space wcode 0#20) off = descriptor kind space wcode off := by
  apply BitVec.eq_of_getLsbD_eq
  intro i hi
  simp only [atOffset, BitVec.getLsbD_or, BitVec.getLsbD_shiftLeft, BitVec.truncate_eq_setWidth,
    BitVec.getLsbD_setWidth, descriptor_getLsbD, BitVec.getLsbD_zero]
  by_cases hlow : i < 8
  · simp [hlow]
  have hkind : ¬ i < 4 := by omega
  have hspace : ¬ i < 6 := by omega
  by_cases hoff : i < 28
  · have hfield : i - 8 < 32 := by omega
    simp [hlow, hkind, hspace, hoff, hfield, hi]
  · have habove : off.getLsbD (i - 8) = false := BitVec.getLsbD_of_ge off (i - 8) (by omega)
    simp [hlow, hkind, hspace, hoff, habove]

/-- A READ descriptor whose offset bits are clear, presented at an offset. -/
theorem spells_read {d : Word} {off : Offset} {i : Instr} (space wcode : BitVec 2)
    (hd : d = descriptor 0#4 space wcode 0#20) (hi : decodeRead space wcode off = .ok i) :
    Spells (atOffset d off) (fun _ => i) := by
  intro t ht
  rw [hd, atOffset_descriptor] at ht
  rw [decode_read ht, hi]

/-- A WRITE descriptor whose offset bits are clear, presented at an offset. -/
theorem spells_write {d : Word} {off : Offset} {f : Tx → Instr} (space wcode : BitVec 2)
    (hd : d = descriptor 1#4 space wcode 0#20)
    (hf : ∀ t : Tx, decodeWrite space wcode off t.data t.now = .ok (f t)) : Spells (atOffset d off) f := by
  intro t ht
  rw [hd, atOffset_descriptor] at ht
  rw [decode_write ht, hf]

theorem ioapicUnlisted_of_ne {off : Offset} (h0 : off.toNat ≠ 0x00) (h10 : off.toNat ≠ 0x10) :
    ioapicUnlisted off = true := by
  have hsel : off ≠ ioregselOffset := fun h => h0 (by rw [h]; rfl)
  have hwin : off ≠ iowinOffset := fun h => h10 (by rw [h]; rfl)
  simp [ioapicUnlisted, hsel, hwin]

/-- Settles O21: the offset is unlisted, so it decodes to the rows whose meaning is A7. -/
theorem unlistedIoapicOffsetsAreBadOffset : Obligations.UnlistedIoapicOffsetsAreBadOffset := by
  intro s hs off d h0 h10
  have hun := ioapicUnlisted_of_ne h0 h10
  exact ⟨spells_read 1#2 2#2 (by decide) (decodeRead_ioapicUnlisted hun),
    spells_write 1#2 2#2 (by decide) fun _ => decodeWrite_ioapicUnlisted hun,
    exec_violatingRead trivial hs rfl, exec_violatingWrite trivial hs rfl⟩

/-! ## Other widths (R55 to R58) -/

theorem draw8_eq : draw8 = fun w => .data8 (w.setWidth 8) :=
  funext fun _ => congrArg Response.data8 (BitVec.setWidth_eq_extractLsb' (by decide)).symm

theorem draw16_eq : draw16 = fun w => .data16 (w.setWidth 16) :=
  funext fun _ => congrArg Response.data16 (BitVec.setWidth_eq_extractLsb' (by decide)).symm

/-- Settles O20: each access of another width has a violating read or write as its body. -/
theorem otherWidthsAreBadWidth : Obligations.OtherWidthsAreBadWidth := by
  intro s hs off
  have hread16 : ∀ i ∈ [Instr.r16Lapic off, .r16Ioapic off],
      exec i s = .next (readViolated .a2BadWidth (fun w => .data16 (w.setWidth 16)) s) := by
    rw [← draw16_eq]
    simp only [List.forall_mem_cons, List.not_mem_nil, false_implies, implies_true, and_true]
    exact ⟨exec_violatingRead trivial hs rfl, exec_violatingRead trivial hs rfl⟩
  have hread64 : ∀ i ∈ [Instr.r64Lapic off, .r64Ioapic off],
      exec i s = .next (readViolated .a2BadWidth (fun w => .data64 (Config.drawHigh32 s.draws ++ w)) s) := by
    simp only [List.forall_mem_cons, List.not_mem_nil, false_implies, implies_true, and_true]
    exact ⟨exec_violatingRead trivial hs rfl, exec_violatingRead trivial hs rfl⟩
  have hread8 : exec (.r8Ioapic off) s = .next (readViolated .a2BadWidth (fun w => .data8 (w.setWidth 8)) s) := by
    rw [← draw8_eq]
    exact exec_violatingRead trivial hs rfl
  refine ⟨hread16, hread64, hread8, fun d8 d16 d64 i hi => ?_, spells_write 0#2 0#2 (by decide) fun _ => rfl,
    spells_read 0#2 1#2 (by decide) rfl, spells_read 0#2 3#2 (by decide) rfl, spells_read 1#2 0#2 (by decide) rfl,
    spells_read 1#2 1#2 (by decide) rfl, spells_read 1#2 3#2 (by decide) rfl⟩
  have hwrite : Instr.Ordinary i ∧ body i = violatingWrite .a2BadWidth := by
    simp only [List.mem_cons, List.not_mem_nil, or_false] at hi
    rcases hi with rfl | rfl | rfl | rfl | rfl | rfl <;> exact ⟨trivial, rfl⟩
  obtain ⟨hordinary, hbody⟩ := hwrite
  exact exec_violatingWrite hordinary hs hbody

/-! ### The 8-bit LAPIC read (R55) -/

theorem lapicValue_clearOut (r : LapicReg) (s : State) : lapicValue (clearOut s) r = lapicValue s r := by
  cases r <;> rfl

theorem lapicValue_logAnomaly (c : Anomaly) (r : LapicReg) (s : State) :
    lapicValue (logAnomaly c s) r = lapicValue s r := by
  cases r <;> rfl

theorem readLapicReg_of_value {r : LapicReg} {s : State} {w : Word} (h : lapicValue s r = some w) :
    readLapicReg r s = readsAs w s := by
  unfold readLapicReg; rw [h]

theorem readLapicReg_of_none {r : LapicReg} {s : State} (h : lapicValue s r = none) :
    readLapicReg r s = violatingRead .a1BadOffset s := by
  unfold readLapicReg; rw [h]

/-- R98: the read of an offset that names a register with a value. -/
theorem lapicRead_of_value {off : Offset} {r : LapicReg} {s : State} {w : Word} (hr : lapicRegAt off = some r)
    (h : lapicValue s r = some w) : lapicRead off s = readsAs w s := by
  unfold lapicRead; rw [hr]; exact readLapicReg_of_value h

/-- R54, R120: the read of an offset that names no readable register. -/
theorem lapicRead_of_none {off : Offset} {s : State} (h : ∀ r, lapicRegAt off = some r → lapicValue s r = none) :
    lapicRead off s = violatingRead .a1BadOffset s := by
  unfold lapicRead
  cases hr : lapicRegAt off with
  | none => rfl
  | some r => exact readLapicReg_of_none (h r hr)

/-- R99 to R118: a 32-bit read returns its register's value. -/
theorem exec_lapicReadOf_of_value {r : LapicReg} {s : State} {w : Word} (hs : Running s)
    (h : lapicValue s r = some w) : exec (lapicReadOf r) s = .next (answered s (.data32 w) []) := by
  rw [exec_ordinary_running (ordinary_lapicReadOf r) hs, body_lapicReadOf]
  simp only [readLapicReg_of_value ((lapicValue_clearOut r s).trans h)]
  rfl

/-- R53: lane `off[1:0]` is byte `off mod 4`. -/
theorem byteLane_eq (w : Word) (off : Offset) : byteLane w off = (w >>> (8 * (off.toNat % 4))).setWidth 8 := by
  have hlane : (off.extractLsb' 0 2).toNat = off.toNat % 4 := by simp
  rw [byteLane, hlane, BitVec.setWidth_eq_extractLsb' (by decide)]

/-- Settles O19: the byte read is the aligned read after LOG B4. -/
theorem byteReadReturnsTheLane : Obligations.ByteReadReturnsTheLane := by
  intro s hs off
  have hexec : exec (.r8Lapic off) s = .next (finishRead (fun w => .data8 (byteLane w off))
      (lapicRead (alignedOffset off) (logAnomaly .b4ByteAccess (clearOut s)))) :=
    exec_ordinary_running trivial hs
  have hvalue (r : LapicReg) : lapicValue (logAnomaly .b4ByteAccess (clearOut s)) r = lapicValue s r :=
    (lapicValue_logAnomaly _ r _).trans (lapicValue_clearOut r s)
  refine ⟨fun r w hr hw => ⟨exec_lapicReadOf_of_value hs hw, ?_⟩, fun hnone => ?_⟩
  · have hread := lapicRead_of_value (off := alignedOffset off) hr ((hvalue r).trans hw)
    rw [hexec, hread, finishRead_readsAs, byteLane_eq]
    rfl
  · have hread := lapicRead_of_none (off := alignedOffset off) fun r hr => (hvalue r).trans (hnone r hr)
    rw [hexec, hread]
    cases hd : s.params.diagnostic with
    | true => rw [violatingRead_diagnostic (s := logAnomaly .b4ByteAccess (clearOut s)) hd]; rfl
    | false => rw [violatingRead_production (s := logAnomaly .b4ByteAccess (clearOut s)) hd, ← byteLane_eq]; rfl

end Sys2Proof.Machine

/-! # Family 30_encoding: the descriptor and the operands

`Decides` says what decoding answers: a refusal where R69 holds of the descriptor, and else a well-formed instruction
whose own descriptor is the one presented. Each part of the decoder answers so (READ and WRITE, the kinds with a line,
the kinds that use no other field), hence the decoder does. Then the rows of IOWIN (R75 to R77), the two timer writes
that carry operands (R85, R141), and the vectors that enter IRR (R78). -/

namespace Sys2Proof.Machine

open Sys2Proof.Safety

/-- Settles O1, by the round trip of each instruction's own transaction (`decode_encode`). -/
theorem encodedInstructionDecodesBack : Obligations.EncodedInstructionDecodesBack := fun _ hi => decode_encode hi

/-! ## Which descriptors are refused (R69) -/

/-- R69: the descriptors that spell no transaction. -/
def IllFormed (d : Word) : Prop :=
  zeroField d ≠ 0#4 ∨ 11 ≤ (kindField d).toNat ∨
    ((kindField d).toNat ≤ 1 ∧ 2 ≤ (spaceField d).toNat) ∨
    (2 ≤ (kindField d).toNat ∧ d.extractLsb' 4 4 ≠ 0#4) ∨
    (4 ≤ (kindField d).toNat ∧ offsetField d ≠ 0#20)

/-- The answer for the descriptor `d`: refused where `bad` holds, and else a well-formed instruction that `d` spells. -/
inductive Decides (d : Word) (bad : Prop) : Except Reject Instr → Prop
  | refused {why : Reject} (hbad : bad) : Decides d bad (.error why)
  | spelled {i : Instr} (hgood : ¬ bad) (hwf : i.wellFormed = true) (hdesc : (encode i).desc = d) :
      Decides d bad (.ok i)

section
variable {d : Word}

theorem Decides.congr {bad bad' : Prop} {r : Except Reject Instr} (h : Decides d bad r) (hiff : bad' ↔ bad) :
    Decides d bad' r := by
  rwa [propext hiff]

/-- A READ or WRITE is ill-formed by its space alone. -/
theorem illFormed_iff_of_access (hz : zeroField d = 0#4) (hk : (kindField d).toNat ≤ 1) :
    IllFormed d ↔ 2 ≤ (spaceField d).toNat := by
  have h11 : ¬ 11 ≤ (kindField d).toNat := by omega
  have h2 : ¬ 2 ≤ (kindField d).toNat := by omega
  have h4 : ¬ 4 ≤ (kindField d).toNat := by omega
  simp only [IllFormed, hz, hk, h11, h2, h4, ne_eq, not_true_eq_false, true_and, false_and, false_or, or_false]

/-- RAISE and LOWER use the offset field, as the line number. -/
theorem illFormed_iff_of_line (hz : zeroField d = 0#4) (h2 : 2 ≤ (kindField d).toNat)
    (h3 : (kindField d).toNat ≤ 3) : IllFormed d ↔ d.extractLsb' 4 4 ≠ 0#4 := by
  have h11 : ¬ 11 ≤ (kindField d).toNat := by omega
  have h1 : ¬ (kindField d).toNat ≤ 1 := by omega
  have h4 : ¬ 4 ≤ (kindField d).toNat := by omega
  simp only [IllFormed, hz, h2, h11, h1, h4, ne_eq, not_true_eq_false, true_and, false_and, false_or, or_false]

/-- The kinds 4 to 10 use no field but the kind. -/
theorem illFormed_iff_of_bare (hz : zeroField d = 0#4) (h4 : 4 ≤ (kindField d).toNat)
    (h10 : (kindField d).toNat ≤ 10) : IllFormed d ↔ d.extractLsb' 4 4 ≠ 0#4 ∨ offsetField d ≠ 0#20 := by
  have h11 : ¬ 11 ≤ (kindField d).toNat := by omega
  have h1 : ¬ (kindField d).toNat ≤ 1 := by omega
  have h2 : 2 ≤ (kindField d).toNat := by omega
  simp only [IllFormed, hz, h4, h11, h1, h2, ne_eq, not_true_eq_false, true_and, false_and, false_or]

/-- Bits 7:4 are the space and the width code. -/
theorem extractLsb'_four_eq_zero_iff (d : Word) :
    d.extractLsb' 4 4 = 0#4 ↔ spaceField d = 0#2 ∧ wcodeField d = 0#2 := by
  simp only [spaceField, wcodeField, ← BitVec.toNat_inj, BitVec.extractLsb'_toNat, BitVec.toNat_ofNat,
    Nat.shiftRight_eq_div_pow]
  omega

end

/-! ## READ and WRITE (R72, R74, R77) -/

theorem encode_lapicReadOf (r : LapicReg) : encode (lapicReadOf r) = encodeLapicRead r := by cases r <;> rfl

theorem wellFormed_lapicReadOf (r : LapicReg) : (lapicReadOf r).wellFormed = true := by cases r <;> rfl

theorem encode_lapicWriteOf_desc (data : Word) (now : Nat) (r : LapicReg) :
    (encode (lapicWriteOf data now r)).desc = lapicWrite32 (lapicOffset r) := by cases r <;> rfl

theorem wellFormed_lapicWriteOf (data : Word) (now : Nat) (r : LapicReg) :
    (lapicWriteOf data now r).wellFormed = true := by cases r <;> rfl

/-- The 32-bit LAPIC read: a listed register, or an unlisted offset. -/
theorem decodeRead_lapic32_decides (off : Offset) :
    Decides (lapicRead32 off) (2 ≤ (0#2 : BitVec 2).toNat) (decodeRead 0#2 2#2 off) := by
  cases hr : lapicRegAt off with
  | some r =>
    have hread : decodeRead 0#2 2#2 off = .ok (lapicReadOf r) := by simp [decodeRead, hr]
    rw [hread, ← lapicOffset_of_lapicRegAt hr]
    exact .spelled (by decide) (wellFormed_lapicReadOf r) (by rw [encode_lapicReadOf]; rfl)
  | none =>
    rw [decodeRead_lapicUnlisted hr]
    exact .spelled (by decide) (Option.isNone_iff_eq_none.2 hr) rfl

theorem decodeWrite_lapic32_decides (off : Offset) (data : BitVec 64) (now : Nat) :
    Decides (lapicWrite32 off) (2 ≤ (0#2 : BitVec 2).toNat) (decodeWrite 0#2 2#2 off data now) := by
  cases hr : lapicRegAt off with
  | some r =>
    have hwrite : decodeWrite 0#2 2#2 off data now = .ok (lapicWriteOf (data.extractLsb' 0 32) now r) := by
      simp [decodeWrite, hr]
    rw [hwrite, ← lapicOffset_of_lapicRegAt hr]
    exact .spelled (by decide) (wellFormed_lapicWriteOf _ now r) (encode_lapicWriteOf_desc _ now r)
  | none =>
    rw [decodeWrite_lapicUnlisted hr]
    exact .spelled (by decide) (Option.isNone_iff_eq_none.2 hr) rfl

/-- An IOAPIC offset is IOREGSEL's, IOWIN's or unlisted (R74). -/
theorem ioapicOffset_cases (off : Offset) :
    off = ioregselOffset ∨ off = iowinOffset ∨ ioapicUnlisted off = true := by
  by_cases hsel : off = ioregselOffset
  · exact .inl hsel
  by_cases hwin : off = iowinOffset
  · exact .inr (.inl hwin)
  · exact .inr (.inr (by simp [ioapicUnlisted, hsel, hwin]))

theorem decodeRead_ioapic32_decides (off : Offset) :
    Decides (descriptor 0#4 1#2 2#2 off) (2 ≤ (1#2 : BitVec 2).toNat) (decodeRead 1#2 2#2 off) := by
  rcases ioapicOffset_cases off with rfl | rfl | hun
  · exact .spelled (i := .r32Ioregsel) (by decide) rfl rfl
  · exact .spelled (i := .r32Iowin) (by decide) rfl rfl
  · rw [decodeRead_ioapicUnlisted hun]
    exact .spelled (by decide) hun rfl

theorem decodeWrite_ioapic32_decides (off : Offset) (data : BitVec 64) (now : Nat) :
    Decides (descriptor 1#4 1#2 2#2 off) (2 ≤ (1#2 : BitVec 2).toNat) (decodeWrite 1#2 2#2 off data now) := by
  rcases ioapicOffset_cases off with rfl | rfl | hun
  · exact .spelled (i := .w32Ioregsel (data.extractLsb' 0 32)) (by decide) rfl rfl
  · exact .spelled (i := .w32Iowin (data.extractLsb' 0 32)) (by decide) rfl rfl
  · rw [decodeWrite_ioapicUnlisted hun]
    exact .spelled (by decide) hun rfl

theorem bitVec2_cases (b : BitVec 2) : b = 0#2 ∨ b = 1#2 ∨ b = 2#2 ∨ b = 3#2 := by
  revert b; decide

theorem decodeRead_decides (space wcode : BitVec 2) (off : Offset) :
    Decides (descriptor 0#4 space wcode off) (2 ≤ space.toNat) (decodeRead space wcode off) := by
  rcases bitVec2_cases space with rfl | rfl | rfl | rfl
  · rcases bitVec2_cases wcode with rfl | rfl | rfl | rfl
    · exact .spelled (i := .r8Lapic off) (by decide) rfl rfl
    · exact .spelled (i := .r16Lapic off) (by decide) rfl rfl
    · exact decodeRead_lapic32_decides off
    · exact .spelled (i := .r64Lapic off) (by decide) rfl rfl
  · rcases bitVec2_cases wcode with rfl | rfl | rfl | rfl
    · exact .spelled (i := .r8Ioapic off) (by decide) rfl rfl
    · exact .spelled (i := .r16Ioapic off) (by decide) rfl rfl
    · exact decodeRead_ioapic32_decides off
    · exact .spelled (i := .r64Ioapic off) (by decide) rfl rfl
  · exact .refused (by decide)
  · exact .refused (by decide)

theorem decodeWrite_decides (space wcode : BitVec 2) (off : Offset) (data : BitVec 64) (now : Nat) :
    Decides (descriptor 1#4 space wcode off) (2 ≤ space.toNat) (decodeWrite space wcode off data now) := by
  rcases bitVec2_cases space with rfl | rfl | rfl | rfl
  · rcases bitVec2_cases wcode with rfl | rfl | rfl | rfl
    · exact .spelled (i := .w8Lapic off _) (by decide) rfl rfl
    · exact .spelled (i := .w16Lapic off _) (by decide) rfl rfl
    · exact decodeWrite_lapic32_decides off data now
    · exact .spelled (i := .w64Lapic off data) (by decide) rfl rfl
  · rcases bitVec2_cases wcode with rfl | rfl | rfl | rfl
    · exact .spelled (i := .w8Ioapic off _) (by decide) rfl rfl
    · exact .spelled (i := .w16Ioapic off _) (by decide) rfl rfl
    · exact decodeWrite_ioapic32_decides off data now
    · exact .spelled (i := .w64Ioapic off data) (by decide) rfl rfl
  · exact .refused (by decide)
  · exact .refused (by decide)

/-! ## The other kinds (R67, R68) -/

/-- A descriptor of the kind `k` whose bits 31:28 are zero and that has neither space nor width code. -/
theorem descriptor_of_kind {d : Word} {k : BitVec 4} (hz : zeroField d = 0#4) (hk : (kindField d).toNat = k.toNat)
    (hfields : spaceField d = 0#2 ∧ wcodeField d = 0#2) : descriptor k 0#2 0#2 (offsetField d) = d := by
  have hd := descriptor_fields d hz
  rwa [BitVec.eq_of_toNat_eq hk, hfields.1, hfields.2] at hd

theorem plainKind_decides {d : Word} {i : Instr} {k : BitVec 4} (hz : zeroField d = 0#4)
    (hk : (kindField d).toNat = k.toNat) (hwf : i.wellFormed = true)
    (hdesc : (encode i).desc = descriptor k 0#2 0#2 (offsetField d)) :
    Decides d (d.extractLsb' 4 4 ≠ 0#4) (plainKind d i) := by
  unfold plainKind
  split
  · next hfields =>
    exact .spelled (not_not.2 ((extractLsb'_four_eq_zero_iff d).2 hfields)) hwf
      (hdesc.trans (descriptor_of_kind hz hk hfields))
  · next hfields => exact .refused ((extractLsb'_four_eq_zero_iff d).not.2 hfields)

/-- RAISE and LOWER (R161, R162). -/
theorem plainKind_decides_illFormed {d : Word} {i : Instr} {k : BitVec 4} (hz : zeroField d = 0#4)
    (hk : (kindField d).toNat = k.toNat) (hrange : 2 ≤ k.toNat ∧ k.toNat ≤ 3) (hwf : i.wellFormed = true)
    (hdesc : (encode i).desc = descriptor k 0#2 0#2 (offsetField d)) : Decides d (IllFormed d) (plainKind d i) := by
  rw [← hk] at hrange
  exact (plainKind_decides hz hk hwf hdesc).congr (illFormed_iff_of_line hz hrange.1 hrange.2)

theorem bareKind_decides_illFormed {d : Word} {i : Instr} {k : BitVec 4} (hz : zeroField d = 0#4)
    (hk : (kindField d).toNat = k.toNat) (hrange : 4 ≤ k.toNat ∧ k.toNat ≤ 10) (hwf : i.wellFormed = true)
    (hdesc : (encode i).desc = descriptor k 0#2 0#2 0#20) : Decides d (IllFormed d) (bareKind d i) := by
  rw [← hk] at hrange
  have hbad := illFormed_iff_of_bare hz hrange.1 hrange.2
  unfold bareKind
  split
  · next hoff =>
    rw [← hoff] at hdesc
    exact (plainKind_decides hz hk hwf hdesc).congr (hbad.trans (or_iff_left (not_not.2 hoff)))
  · next hoff => exact .refused (hbad.2 (.inr hoff))

/-! ## The decoder -/

/-- R68, R69: decoding refuses the ill-formed descriptors, and gives for every other a well-formed instruction that
encodes to it. -/
theorem decode_decides (t : Tx) : Decides t.desc (IllFormed t.desc) (decode t) := by
  unfold decode
  split
  · next hz => exact .refused (.inl hz)
  next hz =>
  replace hz := not_not.1 hz
  have hfields := descriptor_fields t.desc hz
  split
  · next hk =>
    have haccess := decodeRead_decides (spaceField t.desc) (wcodeField t.desc) (offsetField t.desc)
    rw [← BitVec.eq_of_toNat_eq (y := 0#4) hk, hfields] at haccess
    exact haccess.congr (illFormed_iff_of_access hz (by omega))
  · next hk =>
    have haccess := decodeWrite_decides (spaceField t.desc) (wcodeField t.desc) (offsetField t.desc) t.data t.now
    rw [← BitVec.eq_of_toNat_eq (y := 1#4) hk, hfields] at haccess
    exact haccess.congr (illFormed_iff_of_access hz (by omega))
  · next hk => exact plainKind_decides_illFormed (k := 2#4) hz hk (by decide) rfl rfl
  · next hk => exact plainKind_decides_illFormed (k := 3#4) hz hk (by decide) rfl rfl
  · next hk => exact bareKind_decides_illFormed (k := 4#4) hz hk (by decide) rfl rfl
  · next hk => exact bareKind_decides_illFormed (k := 5#4) hz hk (by decide) rfl rfl
  · next hk => exact bareKind_decides_illFormed (k := 6#4) hz hk (by decide) rfl rfl
  · next hk => exact bareKind_decides_illFormed (k := 7#4) hz hk (by decide) rfl rfl
  · next hk => exact bareKind_decides_illFormed (k := 8#4) hz hk (by decide) rfl rfl
  · next hk => exact bareKind_decides_illFormed (k := 9#4) hz hk (by decide) rfl rfl
  · next hk => exact bareKind_decides_illFormed (k := 10#4) hz hk (by decide) rfl rfl
  · exact .refused (.inr (.inl (by simp only [imp_false] at *; omega)))

/-- Settles O2: an answer that is an instruction is a spelled one. -/
theorem decodedDescriptorIsThePresentedOne : Obligations.DecodedDescriptorIsThePresentedOne := by
  intro t i hi
  have h := decode_decides t
  rw [hi] at h
  cases h with
  | spelled _ hwf hdesc => exact ⟨hwf, hdesc⟩

theorem decode_error_iff_illFormed (t : Tx) : (∃ why, decode t = .error why) ↔ IllFormed t.desc := by
  have h := decode_decides t
  generalize decode t = r at h
  cases h with
  | refused hbad => exact ⟨fun _ => hbad, fun _ => ⟨_, rfl⟩⟩
  | spelled hgood => exact ⟨nofun, fun hbad => absurd hbad hgood⟩

/-- R69: a step refuses an issued descriptor that does not decode (log 11). -/
theorem step_of_decode_error {s : State} {t : Tx} {rest : List Tx} {why : Reject} (h : s.pending = t :: rest)
    (hd : decode t = .error why) : step s = .refused (.notATransaction why) := by
  have hf : fetch s = some (t, s.withPending rest) := by unfold fetch; rw [h]
  unfold step
  simp only [hf, hd]

/-- Settles O3: `IllFormed` is R69's list, and a step passes the decoder's refusal on. -/
theorem onlyIllFormedDescriptorsAreRefused : Obligations.OnlyIllFormedDescriptorsAreRefused :=
  fun t => ⟨decode_error_iff_illFormed t, fun _ _ _ => step_of_decode_error⟩

/-! ## The rows of IOWIN (R75 to R77) -/

/-- The row of spec/opcode_table.json for a read (`none`) or a write of some data of what IOWIN reaches (R75). -/
def iowinRow : IowinReg → Option Word → Instr
  | .id, none => .r32IowinId
  | .id, some d => .w32IowinId d
  | .version, none => .r32IowinVersion
  | .arbitration, none => .r32IowinArbitration
  | .version, some d => .w32IowinReadOnly d
  | .arbitration, some d => .w32IowinReadOnly d
  | .config _, none => .r32IowinRedirection
  | .config _, some d => .w32IowinConfig d
  | .destination _, none => .r32IowinRedirection
  | .destination _, some d => .w32IowinDestination d
  | .unknown, write => .iowinUnknown write

/-- R77: the row is the one of what the index reaches. -/
theorem refineIowin_eq_iowinRow {sel : BitVec 8} {r : IowinReg} (h : iowinRegAt sel = r) (d : Word) :
    refineIowin sel .r32Iowin = iowinRow r none ∧ refineIowin sel (.w32Iowin d) = iowinRow r (some d) := by
  unfold refineIowin
  cases r <;> simp only [h] <;> exact ⟨rfl, rfl⟩

theorem carrier_iowinRow (r : IowinReg) (d : Word) :
    carrier (iowinRow r none) = .r32Iowin ∧ carrier (iowinRow r (some d)) = .w32Iowin d := by
  cases r <;> exact ⟨rfl, rfl⟩

/-- The row that the index selects is a case of the same access (log 9). -/
theorem carrier_refineIowin (sel : BitVec 8) (i : Instr) : carrier (refineIowin sel i) = carrier i := by
  cases i with
  | r32Iowin => rw [(refineIowin_eq_iowinRow rfl 0#32).1, (carrier_iowinRow _ 0#32).1]; rfl
  | w32Iowin d => rw [(refineIowin_eq_iowinRow rfl d).2, (carrier_iowinRow _ d).2]; rfl
  | _ => rfl

theorem exec_refineIowin (sel : BitVec 8) (i : Instr) (s : State) : exec (refineIowin sel i) s = exec i s := by
  rw [← exec_carrier, carrier_refineIowin, exec_carrier]

/-- Settles O5: an instruction, its carrier and its selected row are one access, and the row is that of R75's table. -/
theorem iowinIndexSelectsTheRow : Obligations.IowinIndexSelectsTheRow :=
  ⟨fun i s => ⟨exec_carrier i s, exec_refineIowin _ i s⟩,
    fun _ d => ⟨fun h => refineIowin_eq_iowinRow (iowinRegAt_id h) d,
      fun h => refineIowin_eq_iowinRow (iowinRegAt_version h) d,
      fun h => refineIowin_eq_iowinRow (iowinRegAt_arbitration h) d,
      fun _ h => refineIowin_eq_iowinRow (iowinRegAt_config h) d,
      fun _ h => refineIowin_eq_iowinRow (iowinRegAt_destination h) d,
      fun h => refineIowin_eq_iowinRow (iowinRegAt_unknown h) d⟩⟩

/-! ## The timer's writes (R85, R139, R141) -/

/-- R72: the descriptor of a 32-bit LAPIC write spells the write of the register at its offset. -/
theorem spells_lapicWrite {d : Word} (r : LapicReg) (hd : d = lapicWrite32 (lapicOffset r)) :
    Spells d (fun t => lapicWriteOf (data32Of t) t.now r) :=
  fun _ ht => decode_lapicWrite (ht.trans hd)

/-- R85, R139: the divider code is made of bits that are stored. -/
theorem dividerCode_storedDivide (d : Word) : dividerCode (storedDivide d) = dividerCode d := by
  have hhigh : (0x0000000B#32).extractLsb' 3 1 = BitVec.allOnes 1 := by decide
  have hlow : (0x0000000B#32).extractLsb' 0 2 = BitVec.allOnes 2 := by decide
  rw [dividerCode, storedDivide, BitVec.extractLsb'_and, BitVec.extractLsb'_and, hhigh, hlow, BitVec.and_allOnes,
    BitVec.and_allOnes]
  rfl

/-- R85, R139: a divide write that stores `w` sets the shift of `w`'s code. -/
theorem setDivider_of_stored {d w : Word} (h : storedDivide d = w) (l : Lapic) :
    setDivider d l = { l with timerDiv := w, timerShift := dividerShift (dividerCode w) } := by
  rw [setDivider, ← dividerCode_storedDivide d, h]

/-- Settles O23: both writes are their bodies, and R85's table is that of the code of the stored bits. -/
theorem timerWritesArmAndDivide : Obligations.TimerWritesArmAndDivide := by
  intro s hs d now
  refine ⟨spells_lapicWrite .timerInitial (by decide), exec_ordinary_running trivial hs,
    spells_lapicWrite .timerDivide (by decide), fun row hrow hstored => ?_⟩
  have hshift : dividerShift (dividerCode row.1) = row.2 := by
    clear hstored
    revert row
    decide
  have hexec : exec (.w32LapicTimerDivide d) s = .next ((clearOut s).withLapic (setDivider d s.lapic)) :=
    exec_ordinary_running trivial hs
  rw [hexec, setDivider_of_stored hstored, hshift]
  rfl

/-! ## The vectors that enter IRR (R78, R186) -/

/-- Every vector of `irr'` that is not in `irr` may be delivered. -/
def GainsDeliverable (irr irr' : Bits256) : Prop :=
  ∀ v : Vec, getBit irr' v = true → getBit irr v = true ∨ Deliverable v

theorem GainsDeliverable.of_eq {irr irr' : Bits256} (h : irr' = irr) : GainsDeliverable irr irr' :=
  fun _ hv => .inl (h ▸ hv)

/-- R125: an accepted vector is valid. -/
theorem DeliveryStep.gainsDeliverable {s t : State} (h : DeliveryStep s t) :
    GainsDeliverable s.lapic.irr t.lapic.irr :=
  fun v hv => (h.irr_new v hv).imp_right (validVector_iff v).1

theorem RecordKept.gainsDeliverable {s t : State} (h : RecordKept s t) : GainsDeliverable s.lapic.irr t.lapic.irr :=
  .of_eq (by rw [h.lapic])

theorem onLine_setIrq_gainsDeliverable (n : Offset) (s : State) :
    GainsDeliverable s.lapic.irr (onLine n setIrq s).lapic.irr := by
  unfold onLine
  split
  · simp only [setIrq]
    split
    · exact .of_eq rfl
    split
    · exact .of_eq rfl
    · exact (checkIrq_step _ (setIoIrr _ (setIrqValue _ s))).1.gainsDeliverable
  · exact (violatingWrite_recordKept _ s).gainsDeliverable

theorem writeIowin_gainsDeliverable (r : IowinReg) (d : Word) (s : State) :
    GainsDeliverable s.lapic.irr (writeIowin r d s).lapic.irr := by
  cases r with
  | id | destination => exact .of_eq rfl
  | version | arbitration | unknown => exact (violatingWrite_recordKept _ s).gainsDeliverable
  | config k => exact (checkIrq_step k (setConfig k _ s)).1.gainsDeliverable

theorem andThen_checkVector_lapic (s : State) : (andThen s checkVector).lapic = s.lapic := by
  unfold andThen
  split
  · rfl
  · exact checkVector_lapic s

theorem endOfInterrupt_gainsDeliverable (s : State) :
    GainsDeliverable s.lapic.irr (endOfInterrupt s).lapic.irr := by
  unfold endOfInterrupt
  split
  · exact .of_eq rfl
  · next v _ =>
    rw [andThen_checkVector_lapic]
    split
    · exact (remoteEoi_step v (s.withLapic { s.lapic with isr := clearBit s.lapic.isr v })).1.gainsDeliverable
    · exact .of_eq rfl

theorem timer_gainsDeliverable (now : Nat) (s : State) : GainsDeliverable s.lapic.irr (timer now s).lapic.irr := by
  by_cases ha : Advances now s.lapic
  · by_cases hc : timerSteps s.lapic now < s.lapic.timerCurrent
    · rw [timer_counts ha hc]; exact .of_eq rfl
    · rw [timer_expires ha hc]
      rcases expire_cases (timerSteps s.lapic now - s.lapic.timerCurrent) (consumed now s) with
        ⟨_, h⟩ | ⟨_, h⟩ | ⟨_, h⟩ <;> rw [h]
      · exact (fireTimer_step (setCurrent _ (consumed now s))).gainsDeliverable
      · exact (fireTimer_step (setCurrent _ (consumed now s))).gainsDeliverable
      · unfold raiseViolation
        split <;> exact .of_eq rfl
  · rw [timer_idle ha]; exact .of_eq rfl

/-- Each transaction that may deliver adds vectors to IRR by `deliver` only. -/
theorem body_gainsDeliverable {i : Instr} (hi : MayDeliver i) (s : State) :
    GainsDeliverable s.lapic.irr (body i s).lapic.irr := by
  rcases hi with ⟨k, rfl⟩ | ⟨d, hd⟩ | ⟨d, rfl⟩ | ⟨v, rfl⟩ | ⟨n, rfl⟩ | ⟨d, rfl⟩ | ⟨a, rfl⟩
  · exact onLine_setIrq_gainsDeliverable k s
  · rw [← body_carrier, hd]; exact writeIowin_gainsDeliverable _ d s
  · exact endOfInterrupt_gainsDeliverable s
  · exact (remoteEoi_step v s).1.gainsDeliverable
  · exact timer_gainsDeliverable n s
  · exact (dispatchIpi_step d _ (s.withLapic _)).1.gainsDeliverable
  · exact (route_step a s).gainsDeliverable

/-- A vector enters IRR by a transaction that may deliver: ACK only clears a request. -/
theorem LapicEffect.mayDeliver_of_requested {l l' : Lapic} {i : Instr} {v : Vec} (h : LapicEffect l i l')
    (h₀ : getBit l.irr v = false) (h₁ : getBit l'.irr v = true) : MayDeliver i := by
  have hkept : l'.irr ≠ l.irr := fun he => by simp [he, h₀] at h₁
  cases h with
  | ack => simp [h₀] at h₁
  | deliver hi => exact hi
  | icrLow | tick | retire => simp [MayDeliver]
  | _ => exact absurd rfl hkept

/-- R78, R186 for an ordinary transaction. -/
theorem exec_ordinary_requests {i : Instr} {s t : State} {v : Vec} (hx : exec i s = .next t) (hi : Instr.Ordinary i)
    (h₀ : getBit s.lapic.irr v = false) (h₁ : getBit t.lapic.irr v = true) : Deliverable v ∧ MayDeliver i := by
  have hmay := (exec_effect hx hi).lapic.mayDeliver_of_requested h₀ h₁
  obtain ⟨_, rfl⟩ := exec_ordinary_next hi hx
  refine ⟨(body_gainsDeliverable hmay (clearOut s) v h₁).resolve_left fun hold => ?_, hmay⟩
  rw [clearOut_lapic, h₀] at hold
  cases hold

/-- Settles O37: RESET leaves IRR empty, and every ordinary transaction adds to it by a delivery. -/
theorem onlyDeliverableVectorsEnterIrr : Obligations.OnlyDeliverableVectorsEnterIrr := by
  intro i s t v hx hrestore h₀ h₁
  cases i with
  | reset now =>
    cases hx
    have hempty : getBit (0#256) v = false := BitVec.getLsbD_zero
    exact absurd (hempty.symm.trans h₁) (by decide)
  | restore r => exact absurd rfl (hrestore r)
  | _ => exact exec_ordinary_requests hx trivial h₀ h₁

/-! ## Sample descriptors (R68) -/

/-- A word of the table that is an instruction's own transaction decodes as that instruction does. -/
theorem decodeTableWord_of_encode {w : Nat} {i : Instr} (hi : i.wellFormed = true) (hw : tableTx 32 w = encode i) :
    decodeTableWord 32 w = some (carrier i) := by
  unfold decodeTableWord
  rw [hw, decode_encode hi]

/-- Settles O4: each word is the transaction of its instruction; kind 11 is none's. -/
theorem sampleDescriptorsDecode : Obligations.SampleDescriptorsDecode :=
  ⟨decodeTableWord_of_encode (i := .r32LapicTpr) rfl rfl,
    decodeTableWord_of_encode (i := .w32LapicEoi 0#32) rfl rfl,
    decodeTableWord_of_encode (i := .r32LapicIrr 1#3) rfl rfl,
    decodeTableWord_of_encode (i := .w32LapicTimerInitial 0#32 0) rfl rfl,
    decodeTableWord_of_encode (i := .r8Lapic 0x081#20) rfl rfl,
    decodeTableWord_of_encode (i := .w32Ioregsel 0#32) rfl rfl,
    decodeTableWord_of_encode (i := .r32Iowin) rfl rfl,
    decodeTableWord_of_encode (i := .raiseLine 5#20) rfl rfl,
    decodeTableWord_of_encode (i := .ack) rfl rfl,
    decodeTableWord_of_encode (i := .tick 0) rfl rfl,
    rfl⟩

end Sys2Proof.Machine

/-! # Family 40_bitvector: the 256-bit registers and the line registers

The laws of `set`, `clear` and `highest` stand with the model's laws. What is added: a vector is a word number and a bit
number (R91), so `get` reads a bit of a word (R92), and a register in which no vector is set is zero (R95). -/

namespace Sys2Proof.Machine

/-- R91: a vector is its word number, its upper three bits, and its bit number in that word, its lower five. -/
theorem vec_toNat_eq_word_add_bit (v : Vec) : v.toNat = 32 * (v.extractLsb' 5 3).toNat + v.toNat % 32 := by
  have hv := vec_toNat_lt v
  have hword : (v.extractLsb' 5 3).toNat = v.toNat / 32 := by
    rw [BitVec.extractLsb'_toNat, Nat.shiftRight_eq_div_pow]
    omega
  rw [hword, Nat.div_add_mod]

/-- R91, R92: `get` reads bit `v & 31` of word `v >> 5`. -/
theorem getBit_eq_wordOf (b : Bits256) (v : Vec) :
    getBit b v = (wordOf b (v.extractLsb' 5 3)).getLsbD (v.toNat % 32) := by
  have hbit := wordOf_getLsbD b (v.extractLsb' 5 3) ⟨v.toNat % 32, Nat.mod_lt _ (by decide)⟩
  rw [hbit, ← vec_toNat_eq_word_add_bit, getBit]

/-- A register in which `get` reads no set bit is zero: the vectors number all of its bits. -/
theorem forall_getBit_eq_false_iff (b : Bits256) : (∀ u : Vec, getBit b u = false) ↔ b = 0#256 := by
  constructor
  · refine fun h => BitVec.eq_of_getLsbD_eq fun n hn => ?_
    have hbit := h (BitVec.ofNat 8 n)
    rw [getBit, BitVec.toNat_ofNat, Nat.mod_eq_of_lt hn] at hbit
    rw [hbit, BitVec.getLsbD_zero]
  · rintro rfl u
    exact BitVec.getLsbD_zero

/-- Settles O27: the laws of the line registers and of the 256-bit registers, with `set`, `clear` and `highest` said as
the rules say them. -/
theorem bitRegisterOperations : Obligations.BitRegisterOperations := by
  refine ⟨fun b k j => ⟨?_, ?_⟩, fun b v => ⟨getBit_eq_wordOf b v, fun u => ?_, fun u => ?_, highest_eq_some_iff b v,
    (highest_eq_none_iff b).trans (forall_getBit_eq_false_iff b)⟩⟩
  · rw [getLsbD_setLine, Bool.if_true_left]
  · rw [getLsbD_clearLine, Bool.if_false_left]
  · rw [getBit_setBit, Bool.if_true_left]
  · rw [getBit_clearBit, Bool.if_false_left]

end Sys2Proof.Machine

/-! # Family 41_lapic_registers: the 32-bit LAPIC accesses

The descriptor of an access spells the read or the write of the register at its offset (R72, R73): a read answers with
the register's value (R98), a write stores or meets A1 (R120 to R123). Then what clears a request (R187): a transaction
that may deliver keeps every request it finds, so that ACK is left. -/

namespace Sys2Proof.Machine

open Sys2Proof.Safety

/-! ## Requests (R187) -/

/-- Every vector that requests service in `irr` does so in `irr'`. -/
def RequestsKept (irr irr' : Bits256) : Prop := ∀ v : Vec, getBit irr v = true → getBit irr' v = true

theorem RequestsKept.refl (irr : Bits256) : RequestsKept irr irr := fun _ h => h

theorem DeliveryStep.requestsKept {s t : State} (h : DeliveryStep s t) : RequestsKept s.lapic.irr t.lapic.irr :=
  h.irr_mono

/-- R161: raising a line is a delivery step. -/
theorem setIrq_step (k : Line) (s : State) : DeliveryStep s (setIrq k s) := by
  simp only [setIrq]
  split
  · exact .refl s
  have hlevel : DeliveryStep s (setIrqValue (setLine s.ioapic.irqValue k) s) := deliveryStep_withIoapic s _
  split
  · exact hlevel
  · exact (hlevel.trans (deliveryStep_withIoapic _ _)).trans (checkIrq_step k (setIoIrr _ (setIrqValue _ s))).1

/-- R151: an IOWIN write is a delivery step: a config write may deliver, the others store or are A6. -/
theorem writeIowin_step (r : IowinReg) (d : Word) (s : State) : DeliveryStep s (writeIowin r d s) := by
  cases r with
  | id | destination => exact deliveryStep_withIoapic s _
  | version | arbitration | unknown => exact deliveryStep_violation s _
  | config k => exact (deliveryStep_withIoapic s _).trans (checkIrq_step k (setConfig k _ s)).1

/-- An operation on a line that is a delivery step, or A5. -/
theorem onLine_step {f : Line → State → State} (n : Offset) (s : State) (hf : ∀ k, DeliveryStep s (f k s)) :
    DeliveryStep s (onLine n f s) := by
  unfold onLine
  split
  · exact hf _
  · exact deliveryStep_violation s _

/-- R131: the EOI write retires a vector of ISR; IRR it changes by the `remote_eoi` it may run only. -/
theorem endOfInterrupt_requestsKept (s : State) : RequestsKept s.lapic.irr (endOfInterrupt s).lapic.irr := by
  unfold endOfInterrupt
  split
  · exact .refl _
  · next v _ =>
    rw [andThen_checkVector_lapic]
    split
    · exact (remoteEoi_step v (s.withLapic { s.lapic with isr := clearBit s.lapic.isr v })).1.requestsKept
    · exact .refl _

theorem fireTimer_setCurrent_requestsKept (n : Nat) (s : State) :
    RequestsKept s.lapic.irr (fireTimer (setCurrent n s)).lapic.irr :=
  (fireTimer_step (setCurrent n s)).requestsKept

/-- R145: an expiry changes IRR by its delivery only. -/
theorem expire_requestsKept (past : Nat) (s : State) : RequestsKept s.lapic.irr (expire past s).lapic.irr := by
  rcases expire_cases past s with ⟨_, h⟩ | ⟨_, h⟩ | ⟨_, h⟩ <;> rw [h]
  · exact fireTimer_setCurrent_requestsKept _ s
  · exact fireTimer_setCurrent_requestsKept _ s
  · unfold raiseViolation
    split <;> exact .refl _

/-- R144: a TICK changes IRR by an expiry only. -/
theorem timer_requestsKept (now : Nat) (s : State) : RequestsKept s.lapic.irr (timer now s).lapic.irr := by
  by_cases ha : Advances now s.lapic
  · by_cases hc : timerSteps s.lapic now < s.lapic.timerCurrent
    · rw [timer_counts ha hc]; exact .refl _
    · rw [timer_expires ha hc]; exact expire_requestsKept _ (consumed now s)
  · rw [timer_idle ha]; exact .refl _

/-- R132: the ICR-low write changes IRR by its dispatch only. -/
theorem writeIcrLow_requestsKept (d : Word) (s : State) : RequestsKept s.lapic.irr (writeIcrLow d s).lapic.irr :=
  (dispatchIpi_step d s.lapic.icr1 (s.withLapic { s.lapic with icr0 := storedIcrLow d })).1.requestsKept

/-- A transaction that may deliver keeps every request. -/
theorem body_requestsKept {i : Instr} (hi : MayDeliver i) (s : State) :
    RequestsKept s.lapic.irr (body i s).lapic.irr := by
  rcases hi with ⟨k, rfl⟩ | ⟨d, hd⟩ | ⟨d, rfl⟩ | ⟨v, rfl⟩ | ⟨n, rfl⟩ | ⟨d, rfl⟩ | ⟨a, rfl⟩
  · exact (onLine_step k s fun j => setIrq_step j s).requestsKept
  · rw [← body_carrier, hd]; exact (writeIowin_step _ d s).requestsKept
  · exact endOfInterrupt_requestsKept s
  · exact (remoteEoi_step v s).1.requestsKept
  · exact timer_requestsKept n s
  · exact writeIcrLow_requestsKept d s
  · exact (route_step a s).requestsKept

theorem not_mayDeliver_ack : ¬ MayDeliver .ack := by
  have hcarrier : carrier .ack = .ack := rfl
  simp [MayDeliver, hcarrier]

/-- R129: ACK clears no request but the eligible one. -/
theorem LapicEffect.eligible_of_ack_cleared {l l' : Lapic} {v : Vec} (h : LapicEffect l .ack l')
    (h₀ : getBit l.irr v = true) (h₁ : getBit l'.irr v = false) : eligible l = some v := by
  cases h with
  | kept => simp [h₀] at h₁
  | deliver hi => exact absurd hi not_mayDeliver_ack
  | ack hu =>
    simp only [getBit_clearBit, h₀, Bool.and_true, Bool.not_eq_false', decide_eq_true_eq] at h₁
    rw [h₁]; exact hu

/-- Settles O36: an ordinary transaction keeps IRR, or may deliver and keeps every request, or is ACK. -/
theorem onlyAckClearsARequest : Obligations.OnlyAckClearsARequest := by
  intro i s t v hx hreset hrestore h₀ h₁
  have hi := ordinary_of_ne hreset hrestore
  have heffect := (exec_effect hx hi).lapic
  have hlost : ¬ RequestsKept s.lapic.irr t.lapic.irr := fun hk => by simp [hk v h₀] at h₁
  rcases heffect.irr_cases with hkept | rfl | hmay
  · exact absurd (hkept ▸ .refl _) hlost
  · exact ⟨rfl, isEligible_of_eligible (heffect.eligible_of_ack_cleared h₀ h₁)⟩
  · obtain ⟨_, rfl⟩ := exec_ordinary_next hi hx
    exact absurd (body_requestsKept hmay (clearOut s)) hlost

/-! ## Reads of listed registers (R98) -/

/-- R72: the descriptor of a 32-bit LAPIC read spells the read of the register at its offset. -/
theorem spells_lapicRead {d : Word} (r : LapicReg) (hd : d = lapicRead32 (lapicOffset r)) :
    Spells d (fun _ => lapicReadOf r) :=
  fun _ ht => decode_lapicRead (ht.trans hd)

/-- R98: the read of a register that has a value is spelled by its descriptor and answers with the value. -/
theorem lapicRead_spelled_and_answered {s : State} (hs : Running s) {d w : Word} (r : LapicReg)
    (hd : d = lapicRead32 (lapicOffset r)) (hw : lapicValue s r = some w) :
    Spells d (fun _ => lapicReadOf r) ∧ exec (lapicReadOf r) s = .next (answered s (.data32 w) []) :=
  ⟨spells_lapicRead r hd, exec_lapicReadOf_of_value hs hw⟩

/-- Settles O11: each row is the read of a register that has a value. -/
theorem lapicReadsReturnTheirRegisters : Obligations.LapicReadsReturnTheirRegisters := by
  intro s hs
  simp only [List.forall_mem_cons, List.not_mem_nil, false_implies, implies_true, and_true]
  exact ⟨lapicRead_spelled_and_answered hs .id (by decide) rfl,
    lapicRead_spelled_and_answered hs .version (by decide) rfl,
    lapicRead_spelled_and_answered hs .tpr (by decide) rfl,
    lapicRead_spelled_and_answered hs .ldr (by decide) rfl,
    lapicRead_spelled_and_answered hs .dfr (by decide) rfl,
    lapicRead_spelled_and_answered hs .svr (by decide) rfl,
    lapicRead_spelled_and_answered hs .error (by decide) rfl,
    lapicRead_spelled_and_answered hs .icrLow (by decide) rfl,
    lapicRead_spelled_and_answered hs .icrHigh (by decide) rfl⟩

/-- Settles O12: each row is the read of a register that has a value; the count's is the stored one (R143). -/
theorem lvtAndTimerReadsReturnTheirRegisters : Obligations.LvtAndTimerReadsReturnTheirRegisters := by
  intro s hs
  simp only [List.forall_mem_cons, List.not_mem_nil, false_implies, implies_true, and_true]
  exact ⟨lapicRead_spelled_and_answered hs .lvtTimer (by decide) rfl,
    lapicRead_spelled_and_answered hs .lvtPerf (by decide) rfl,
    lapicRead_spelled_and_answered hs .lvtInt0 (by decide) rfl,
    lapicRead_spelled_and_answered hs .lvtInt1 (by decide) rfl,
    lapicRead_spelled_and_answered hs .lvtError (by decide) rfl,
    lapicRead_spelled_and_answered hs .timerInitial (by decide) rfl,
    lapicRead_spelled_and_answered hs .timerCurrent (by decide) rfl,
    lapicRead_spelled_and_answered hs .timerDivide (by decide) rfl⟩

/-! ### Words of ISR, TMR and IRR (R73, R97) -/

/-- R73: word `j` of ISR, TMR or IRR is at the base offset with `0x10 * j` added, in bits 27:8 of the descriptor. -/
theorem lapicRead32_word (j : BitVec 3) :
    0x00010080#32 ||| (j.zeroExtend 32 <<< 12) = lapicRead32 (lapicOffset (.isr j)) ∧
    0x00018080#32 ||| (j.zeroExtend 32 <<< 12) = lapicRead32 (lapicOffset (.tmr j)) ∧
    0x00020080#32 ||| (j.zeroExtend 32 <<< 12) = lapicRead32 (lapicOffset (.irr j)) := by
  revert j; decide

/-- The same of the descriptors of the writes. -/
theorem lapicWrite32_word (j : BitVec 3) :
    0x00010081#32 ||| (j.zeroExtend 32 <<< 12) = lapicWrite32 (lapicOffset (.isr j)) ∧
    0x00018081#32 ||| (j.zeroExtend 32 <<< 12) = lapicWrite32 (lapicOffset (.tmr j)) ∧
    0x00020081#32 ||| (j.zeroExtend 32 <<< 12) = lapicWrite32 (lapicOffset (.irr j)) := by
  revert j; decide

/-- R91, R97: bit `k` of word `j` is the bit of vector `32 * j + k`, which is a vector. -/
theorem wordOf_getLsbD_eq_getBit (b : Bits256) (j : BitVec 3) (k : Fin 32) :
    (wordOf b j).getLsbD k = getBit b (BitVec.ofNat 8 (32 * j.toNat + k.val)) := by
  have hvec : 32 * j.toNat + k.val < 2 ^ 8 := by omega
  rw [wordOf_getLsbD, getBit, BitVec.toNat_ofNat, Nat.mod_eq_of_lt hvec]

/-- R110 to R112: the read of word `j` of a 256-bit register. -/
theorem lapicRead_word {s : State} (hs : Running s) {d : Word} {b : Bits256} {j : BitVec 3} (r : LapicReg)
    (hd : d = lapicRead32 (lapicOffset r)) (hb : lapicValue s r = some (wordOf b j)) :
    Spells d (fun _ => lapicReadOf r) ∧
      ∃ w : Word, exec (lapicReadOf r) s = .next (answered s (.data32 w) []) ∧
        ∀ k : Fin 32, w.getLsbD k = getBit b (BitVec.ofNat 8 (32 * j.toNat + k.val)) :=
  ⟨spells_lapicRead r hd, wordOf b j, exec_lapicReadOf_of_value hs hb, wordOf_getLsbD_eq_getBit b j⟩

/-- Settles O13: word `j` of the register is read, whose bits are the register's bits of 32 vectors. -/
theorem wordReadsReturnThirtyTwoVectors : Obligations.WordReadsReturnThirtyTwoVectors := by
  intro s hs j
  obtain ⟨hisr, htmr, hirr⟩ := lapicRead32_word j
  simp only [List.forall_mem_cons, List.not_mem_nil, false_implies, implies_true, and_true]
  exact ⟨lapicRead_word hs (.isr j) hisr rfl, lapicRead_word hs (.tmr j) htmr rfl,
    lapicRead_word hs (.irr j) hirr rfl⟩

/-! ## Accesses that are A1 (R120 to R122) -/

/-- R72: the offset of a register is in the table. -/
theorem listedOffset_lapicOffset (r : LapicReg) : ListedOffset (lapicOffset r).toNat := by
  have hword : ∀ j : BitVec 3, ListedOffset (lapicOffset (.isr j)).toNat ∧
      ListedOffset (lapicOffset (.tmr j)).toNat ∧ ListedOffset (lapicOffset (.irr j)).toNat := by
    unfold ListedOffset; decide
  cases r with
  | isr j => exact (hword j).1
  | tmr j => exact (hword j).2.1
  | irr j => exact (hword j).2.2
  | _ => exact .inl (by decide)

/-- R54: an offset that the table does not list names no register. -/
theorem lapicRegAt_of_not_listed {off : Offset} (h : ¬ ListedOffset off.toNat) : lapicRegAt off = none :=
  Option.eq_none_iff_forall_ne_some.2 fun r hr => h (lapicOffset_of_lapicRegAt hr ▸ listedOffset_lapicOffset r)

/-- Settles O15: an unlisted offset names no register, so it decodes to the rows whose meaning is A1. -/
theorem unlistedLapicOffsetsAreBadOffset : Obligations.UnlistedLapicOffsetsAreBadOffset := by
  intro s hs off d hoff
  have hnone := lapicRegAt_of_not_listed hoff
  exact ⟨spells_read 0#2 2#2 (by decide) (decodeRead_lapicUnlisted hnone),
    spells_write 0#2 2#2 (by decide) fun _ => decodeWrite_lapicUnlisted hnone,
    exec_violatingRead trivial hs rfl, exec_violatingWrite trivial hs rfl⟩

/-- Settles O14: the read of EOI and each write of a read-only register has the violation as its body. -/
theorem wrongDirectionAccessesAreBadOffset : Obligations.WrongDirectionAccessesAreBadOffset := by
  intro s hs j d
  obtain ⟨hisr, htmr, hirr⟩ := lapicWrite32_word j
  have hwrites : ∀ i ∈ [Instr.w32LapicVersion d, .w32LapicIsr j d, .w32LapicTmr j d, .w32LapicIrr j d,
      .w32LapicTimerCurrent d], Instr.Ordinary i ∧ body i = violatingWrite .a1BadOffset := by
    simp only [List.forall_mem_cons, List.not_mem_nil, false_implies, implies_true, and_true]
    exact ⟨⟨trivial, rfl⟩, ⟨trivial, rfl⟩, ⟨trivial, rfl⟩, ⟨trivial, rfl⟩, trivial, rfl⟩
  refine ⟨spells_lapicRead .eoi (by decide), exec_violatingRead trivial hs rfl,
    spells_lapicWrite .version (by decide), spells_lapicWrite (.isr j) hisr, spells_lapicWrite (.tmr j) htmr,
    spells_lapicWrite (.irr j) hirr, spells_lapicWrite .timerCurrent (by decide),
    fun i hi => ?_⟩
  obtain ⟨hordinary, hbody⟩ := hwrites i hi
  exact exec_violatingWrite hordinary hs hbody

/-! ## Writes that store (R123) -/

/-- R123: a write whose body stores `l` leaves `l` and nothing else changed. -/
theorem exec_lapicStore {i : Instr} {s : State} {l : Lapic} (hi : Instr.Ordinary i) (hs : Running s)
    (hbody : body i (clearOut s) = (clearOut s).withLapic l) : exec i s = .next (quiet { s with lapic := l }) := by
  rw [exec_ordinary_running hi hs, hbody]
  rfl

/-- Settles O16: each write stores its register by its rule. -/
theorem lapicWritesStoreTheirData : Obligations.LapicWritesStoreTheirData := by
  intro s hs d
  refine ⟨spells_lapicWrite .error (by decide), exec_lapicStore trivial hs rfl, ?_⟩
  simp only [List.forall_mem_cons, List.not_mem_nil, false_implies, implies_true, and_true]
  exact ⟨⟨spells_lapicWrite .id (by decide), exec_lapicStore trivial hs rfl⟩,
    ⟨spells_lapicWrite .ldr (by decide), exec_lapicStore trivial hs rfl⟩,
    ⟨spells_lapicWrite .dfr (by decide), exec_lapicStore trivial hs rfl⟩,
    ⟨spells_lapicWrite .svr (by decide), exec_lapicStore trivial hs rfl⟩,
    ⟨spells_lapicWrite .icrHigh (by decide), exec_lapicStore trivial hs rfl⟩,
    ⟨spells_lapicWrite .lvtTimer (by decide), exec_lapicStore trivial hs rfl⟩,
    ⟨spells_lapicWrite .lvtPerf (by decide), exec_lapicStore trivial hs rfl⟩,
    ⟨spells_lapicWrite .lvtInt0 (by decide), exec_lapicStore trivial hs rfl⟩,
    ⟨spells_lapicWrite .lvtInt1 (by decide), exec_lapicStore trivial hs rfl⟩,
    ⟨spells_lapicWrite .lvtError (by decide), exec_lapicStore trivial hs rfl⟩⟩

/-- R128: `check_vector()` appends what `notifies` says. -/
theorem checkVector_eq_notifies (s : State) :
    checkVector s = s.withOut { s.out with events := s.out.events ++ notifies s.lapic } := by
  unfold notifies
  cases h : eligible s.lapic with
  | none => rw [checkVector_of_none h]; simp [State.withOut]
  | some v => rw [checkVector_of_some h]; rfl

/-- Settles O17: the store, then `check_vector` of the LAPIC with the new TPR. -/
theorem tprWriteRechecksEligibility : Obligations.TprWriteRechecksEligibility := by
  intro s hs d
  refine ⟨spells_lapicWrite .tpr (by decide), ?_⟩
  have hexec : exec (.w32LapicTpr d) s =
      .next (checkVector ((clearOut s).withLapic { s.lapic with tpr := lowByte d })) :=
    exec_ordinary_running trivial hs
  rw [hexec, checkVector_eq_notifies]
  rfl

end Sys2Proof.Machine

/-! # Family 42_lapic_delivery: arbitration, delivery, acknowledge and EOI

Each operation of spec/42_lapic_delivery.md is said once as claims state results: `deliver` leaves what `delivered` says
(R125), an EOI retires the highest vector in service (R131), and the arbiter's choice is that of the sets (R127).
`RiseNotified` says of two states that a rise of INTR is notified (R130); each transaction satisfies it. -/

namespace Sys2Proof.Machine

open Sys2Proof.Safety

/-! ## The arbiter and INTR (R127, R130) -/

theorem eligible_iff_isEligible (l : Lapic) (v : Vec) : eligible l = some v ↔ IsEligible l v := by
  refine ⟨isEligible_of_eligible, fun ⟨⟨hreq, hmax⟩, habove, hclass⟩ => ?_⟩
  exact (eligible_eq_some_iff l v).2 ⟨hreq, hmax, habove, (priorityClass_lt_iff _ _).2 hclass⟩

theorem eligible_eq_none_iff (l : Lapic) : eligible l = none ↔ ∀ v : Vec, ¬ IsEligible l v := by
  simp only [Option.eq_none_iff_forall_ne_some, ne_eq, eligible_iff_isEligible]

theorem intr_iff_exists_isEligible (s : State) : intr s = true ↔ ∃ v, IsEligible s.lapic v := by
  simp only [intr, Option.isSome_iff_exists, eligible_iff_isEligible]

/-- Settles O28: the scan of the arbiter, said of the sets. -/
theorem arbiterChoosesTheEligibleVector : Obligations.ArbiterChoosesTheEligibleVector :=
  fun s => ⟨eligible_iff_isEligible s.lapic, intr_iff_exists_isEligible s⟩

/-! ## Delivery (R125, R126) -/

/-- A kind that carries neither offset nor line is spelled by its bare descriptor (R68). -/
theorem spells_bare {d : Word} {f : Tx → Instr} (kind : BitVec 4) (hd : d = descriptor kind 0#2 0#2 0#20)
    (hf : ∀ t : Tx, t.desc = descriptor kind 0#2 0#2 0#20 → decode t = bareKind t.desc (f t)) : Spells d f :=
  fun t ht => (hf t (ht.trans hd)).trans (bareKind_descriptor (f t) (ht.trans hd))

/-- R125: another mode than fixed and lowest priority is A4, NMI and INIT apart. -/
theorem delivered_badMode {a : RouteArgs} (hm : a.mode = 2#3 ∨ a.mode = 3#3 ∨ a.mode = 6#3 ∨ a.mode = 7#3)
    (s : State) : delivered a s = violated .a4BadDeliveryMode s (quiet s) := by
  have hmode : ¬ (a.mode = 4#3 ∨ a.mode = 5#3) ∧ ¬ DeliveringMode a.mode := by
    rcases hm with h | h | h | h <;> rw [h] <;> decide
  rw [delivered, if_neg hmode.1, if_pos hmode.2]

/-- The modes that deliver are not NMI or INIT (R79). -/
theorem not_ignored_of_delivering {m : BitVec 3} (hm : DeliveringMode m) : ¬ (m = 4#3 ∨ m = 5#3) := by
  rcases hm with rfl | rfl <;> decide

/-- R125: in a mode that delivers, a vector that may not be delivered is A3. -/
theorem delivered_badVector {a : RouteArgs} (hm : DeliveringMode a.mode) (hv : ¬ Deliverable a.vector) (s : State) :
    delivered a s = violated .a3BadVector s (quiet s) := by
  rw [delivered, if_neg (not_ignored_of_delivering hm), if_neg (not_not.2 hm), if_pos hv]

/-- R125: a pending vector is coalesced. -/
theorem delivered_pending {a : RouteArgs} {s : State} (hm : DeliveringMode a.mode) (hv : Deliverable a.vector)
    (hirr : getBit s.lapic.irr a.vector = true) : delivered a s = answered s .none [.log .b3Coalesced] := by
  rw [delivered, if_neg (not_ignored_of_delivering hm), if_neg (not_not.2 hm), if_neg (not_not.2 hv), if_pos hirr]

/-- R125: any other vector is accepted. -/
theorem delivered_accepted {a : RouteArgs} {s : State} (hm : DeliveringMode a.mode) (hv : Deliverable a.vector)
    (hirr : getBit s.lapic.irr a.vector = false) :
    delivered a s = answered (s.withLapic (acceptVector s.lapic a.vector a.isLevel)) .none
      (notifies (acceptVector s.lapic a.vector a.isLevel)) := by
  rw [delivered, if_neg (not_ignored_of_delivering hm), if_neg (not_not.2 hm), if_neg (not_not.2 hv),
    if_neg (Bool.eq_false_iff.1 hirr)]
  rfl

/-- R125: `deliver` in a transaction that has emitted nothing yet leaves what `delivered` says. -/
theorem route_clearOut (a : RouteArgs) (s : State) : route a (clearOut s) = delivered a s := by
  rcases deliver_cases a.vector a.mode a.isLevel (clearOut s) with
    ⟨hm, h⟩ | ⟨hm, h⟩ | ⟨hm, hv, h⟩ | ⟨hm, hv, hirr, h⟩ | ⟨hm, hv, hirr, h⟩ <;> rw [route, h]
  · rw [delivered, if_pos hm]; rfl
  · rw [delivered_badMode hm]; exact violatingWrite_clearOut _ s
  · have hbad : ¬ Deliverable a.vector := fun hd => by simp [(validVector_iff a.vector).2 hd] at hv
    rw [delivered_badVector hm hbad]; exact violatingWrite_clearOut _ s
  · rw [delivered_pending (s := s) hm ((validVector_iff _).1 hv) hirr]; rfl
  · rw [delivered_accepted (s := s) hm ((validVector_iff _).1 hv) hirr, checkVector_eq_notifies]; rfl

theorem exec_route {s : State} (hs : Running s) (a : RouteArgs) : exec (.route a) s = .next (delivered a s) := by
  rw [exec_ordinary_running (i := .route a) trivial hs, body, route_clearOut]

/-- Settles O29: ROUTE is `deliver` of its operands. -/
theorem routeDeliversWithoutMatchingTheDestination : Obligations.RouteDeliversWithoutMatchingTheDestination :=
  fun _ hs a => ⟨spells_bare 9#4 (by decide) fun _ ht => decode_descriptor ht, exec_route hs a⟩

/-- R125: a deliverable vector is pending after its delivery, accepted or coalesced, and the block runs on. -/
theorem delivered_leaves_pending {a : RouteArgs} {s : State} (hs : Running s) (hm : DeliveringMode a.mode)
    (hv : Deliverable a.vector) :
    Running (delivered a s) ∧ getBit (delivered a s).lapic.irr a.vector = true := by
  cases hirr : getBit s.lapic.irr a.vector with
  | true => rw [delivered_pending hm hv hirr]; exact ⟨hs, hirr⟩
  | false =>
    rw [delivered_accepted hm hv hirr]
    exact ⟨hs, by simp [answered, acceptVector]⟩

/-- Settles O30: after the first delivery the vector is pending, so the second is coalesced. -/
theorem repeatedDeliveryCoalesces : Obligations.RepeatedDeliveryCoalesces := by
  intro s t a b hs ha hb hv hvec hx
  rw [exec_route hs] at hx
  cases hx
  obtain ⟨hrun, hpending⟩ := delivered_leaves_pending hs ha hv
  exact ⟨hpending, by rw [exec_route hrun, delivered_pending hb (hvec ▸ hv) (hvec ▸ hpending)]⟩

/-! ## The ICR-low write (R132, R133) -/

/-- The delivery that the ICR data and the destination word `icr1` ask for (R80, R133). -/
def ipiArgs (data icr1 : Word) : RouteArgs :=
  { vector := vectorField data, mode := modeField data, isLevel := isLevelField data, destination := destByte icr1,
    destMode := destModeField data }

/-- R133: shorthand 3 dispatches nothing; every other delivers. -/
theorem dispatchIpi_eq (data icr1 : Word) (s : State) :
    dispatchIpi data icr1 s = if shorthandField data = 3#2 then s else route (ipiArgs data icr1) s := by
  unfold dispatchIpi
  rcases bitVec2_cases (shorthandField data) with h | h | h | h <;> rw [h] <;> rfl

/-- Settles O31: the store, then the dispatch. -/
theorem icrLowWriteDispatchesTheIpi : Obligations.IcrLowWriteDispatchesTheIpi := by
  intro s hs d stored
  refine ⟨spells_lapicWrite .icrLow (by decide), ?_⟩
  have hexec : exec (.w32LapicIcrLow d) s = .next (dispatchIpi d s.lapic.icr1 (clearOut stored)) :=
    exec_ordinary_running trivial hs
  rw [hexec, dispatchIpi_eq, route_clearOut]
  rfl

/-! ## Acknowledge (R129) -/

theorem acknowledge_of_eligible {s : State} {v : Vec} (h : eligible s.lapic = some v) :
    acknowledge s = respond (.vector (some v))
      (s.withLapic { s.lapic with irr := clearBit s.lapic.irr v, isr := setBit s.lapic.isr v }) := by
  simp only [acknowledge, h]

theorem acknowledge_of_none {s : State} (h : eligible s.lapic = none) :
    acknowledge s = respond (.vector none) (logAnomaly .b1SpuriousAck s) := by
  simp only [acknowledge, h]

theorem exec_ack_of_eligible {s : State} {v : Vec} (hs : Running s) (h : eligible s.lapic = some v) :
    exec .ack s = .next (answered
      { s with lapic := { s.lapic with irr := clearBit s.lapic.irr v, isr := setBit s.lapic.isr v } }
      (.vector (some v)) []) := by
  rw [exec_ordinary_running (i := .ack) trivial hs, body, acknowledge_of_eligible (s := clearOut s) h]
  rfl

/-- R129: a spurious ACK. -/
theorem exec_ack_of_none {s : State} (hs : Running s) (h : eligible s.lapic = none) :
    exec .ack s = .next (answered s (.vector none) [.log .b1SpuriousAck]) := by
  rw [exec_ordinary_running (i := .ack) trivial hs, body, acknowledge_of_none (s := clearOut s) h]
  rfl

/-- Settles O32: by whether the arbiter gives a vector. -/
theorem ackMovesTheEligibleVector : Obligations.AckMovesTheEligibleVector :=
  fun s hs => ⟨spells_bare 4#4 (by decide) fun _ ht => decode_descriptor ht,
    fun v hv => exec_ack_of_eligible hs ((eligible_iff_isEligible s.lapic v).2 hv),
    fun hnone => exec_ack_of_none hs ((eligible_eq_none_iff s.lapic).2 hnone)⟩

/-- R127, R134: an eligible vector is a request above everything in service. -/
theorem eligible_eq_none_of_inService {l : Lapic} {u : Vec} (hu : getBit l.isr u = true)
    (hmax : ∀ v : Vec, getBit l.irr v = true → v ≤ u) : eligible l = none := by
  refine (eligible_eq_none_iff l).2 fun v ⟨⟨hreq, _⟩, habove, _⟩ => ?_
  exact absurd (habove u hu) (BitVec.not_lt.2 (hmax v hreq))

/-- Settles O33: nothing is eligible. -/
theorem serviceIsNotPreemptedByLowerRequests : Obligations.ServiceIsNotPreemptedByLowerRequests := by
  intro s u hs hu hmax
  have hnone := eligible_eq_none_of_inService hu hmax
  exact ⟨by rw [intr, hnone]; rfl, exec_ack_of_none hs hnone⟩

/-! ## EOI (R131) -/

/-- `s` with `v` taken out of ISR (R131). -/
def retire (v : Vec) (s : State) : State := s.withLapic { s.lapic with isr := clearBit s.lapic.isr v }

theorem endOfInterrupt_of_none {s : State} (h : highest s.lapic.isr = none) :
    endOfInterrupt s = logAnomaly .b2EoiEmpty s := by
  simp only [endOfInterrupt, h]

theorem endOfInterrupt_of_edge {s : State} {v : Vec} (h : highest s.lapic.isr = some v)
    (htmr : getBit s.lapic.tmr v = false) : endOfInterrupt s = andThen (retire v s) checkVector := by
  simp [endOfInterrupt, h, htmr, retire]

theorem endOfInterrupt_of_level {s : State} {v : Vec} (h : highest s.lapic.isr = some v)
    (htmr : getBit s.lapic.tmr v = true) : endOfInterrupt s = andThen (remoteEoi v (retire v s)) checkVector := by
  simp [endOfInterrupt, h, htmr, retire]

/-- R131: the check of the arbiter at the end of an EOI, skipped where a violation ended the transaction. -/
theorem andThen_checkVector_eq (t : State) :
    andThen t checkVector =
      if t.faulted.isSome then t else { t with out := { t.out with events := t.out.events ++ notifies t.lapic } } := by
  rw [andThen, checkVector_eq_notifies]
  rfl

/-- Settles O34: an empty ISR, then the retirement of an edge and of a level vector. -/
theorem eoiRetiresTheHighestVector : Obligations.EoiRetiresTheHighestVector := by
  intro s hs d
  have hexec : exec (.w32LapicEoi d) s = .next (endOfInterrupt (clearOut s)) := exec_ordinary_running trivial hs
  rw [hexec]
  refine ⟨spells_lapicWrite .eoi (by decide), fun hempty => ?_, fun v hv => ?_⟩
  · have hnone : highest s.lapic.isr = none :=
      (highest_eq_none_iff _).2 ((forall_getBit_eq_false_iff _).2 hempty)
    rw [endOfInterrupt_of_none (s := clearOut s) hnone]
    rfl
  · have hhighest : highest s.lapic.isr = some v := (highest_eq_some_iff _ v).2 hv
    refine ⟨fun hedge => ?_, fun hlevel => ?_⟩
    · have hrun : (retire v (clearOut s)).faulted = none := hs
      rw [endOfInterrupt_of_edge (s := clearOut s) hhighest hedge, andThen_running hrun, checkVector_eq_notifies]
      rfl
    · refine ⟨remoteEoi v (retire v (clearOut s)), exec_ordinary_running trivial hs, ?_⟩
      rw [endOfInterrupt_of_level (s := clearOut s) hhighest hlevel, andThen_checkVector_eq]

/-- R131, R136: of ISR an EOI clears the highest vector, whatever its REMOTE_EOI does. -/
theorem endOfInterrupt_isr {s : State} {v : Vec} (h : highest s.lapic.isr = some v) :
    (endOfInterrupt s).lapic.isr = clearBit s.lapic.isr v := by
  cases htmr : getBit s.lapic.tmr v with
  | false => rw [endOfInterrupt_of_edge h htmr, andThen_checkVector_lapic]; rfl
  | true =>
    rw [endOfInterrupt_of_level h htmr, andThen_checkVector_lapic, (remoteEoi_step v (retire v s)).1.lapic]
    rfl

/-- Two registers that agree at every vector are equal. -/
theorem bits256_ext {b c : Bits256} (h : ∀ u : Vec, getBit b u = getBit c u) : b = c := by
  refine BitVec.eq_of_getLsbD_eq fun n hn => ?_
  have hbit := h (BitVec.ofNat 8 n)
  simpa only [getBit, BitVec.toNat_ofNat, Nat.mod_eq_of_lt hn] using hbit

/-- R136: a vector above everything in `b` is the highest once set, and clearing it gives `b` back. -/
theorem highest_setBit_of_above {b : Bits256} {v : Vec} (h : ∀ u : Vec, getBit b u = true → u < v) :
    highest (setBit b v) = some v ∧ clearBit (setBit b v) v = b := by
  have hclear : getBit b v = false := Bool.eq_false_iff.2 fun hv => BitVec.lt_irrefl v (h v hv)
  refine ⟨(highest_eq_some_iff _ v).2 ⟨by simp, fun u hu => ?_⟩, bits256_ext fun u => ?_⟩
  · rw [getBit_setBit, Bool.or_eq_true, decide_eq_true_eq] at hu
    exact hu.elim (fun hu => hu ▸ BitVec.le_refl u) fun hu => BitVec.le_of_lt (h u hu)
  · by_cases hu : u = v
    · simp [hu, hclear]
    · simp [hu]

/-- R129: the vector that an ACK returns was eligible, and is in service after it. -/
theorem exec_ack_returned {s t : State} {v : Vec} (hx : exec .ack s = .next t)
    (ht : t.out.response = .vector (some v)) : eligible s.lapic = some v ∧ t.lapic.isr = setBit s.lapic.isr v := by
  obtain ⟨hs, _⟩ := exec_ordinary_next (i := .ack) trivial hx
  cases hw : eligible s.lapic with
  | none => rw [exec_ack_of_none hs hw] at hx; cases hx; cases ht
  | some w => rw [exec_ack_of_eligible hs hw] at hx; cases hx; cases ht; exact ⟨rfl, rfl⟩

/-- Settles O35: the acknowledged vector is above everything in service, so it is what the EOI retires. -/
theorem eoiUndoesTheLastAcknowledge : Obligations.EoiUndoesTheLastAcknowledge := by
  intro s t u v d hack hresponse heoi
  obtain ⟨hv, hisr⟩ := exec_ack_returned hack hresponse
  obtain ⟨_, habove, _⟩ := isEligible_of_eligible hv
  obtain ⟨hhighest, hundone⟩ := highest_setBit_of_above habove
  rw [← hisr] at hhighest hundone
  obtain ⟨_, rfl⟩ := exec_ordinary_next (i := .w32LapicEoi d) trivial heoi
  exact (endOfInterrupt_isr (s := clearOut t) hhighest).trans hundone

/-! ## A rise of INTR is notified (R130) -/

/-- If INTR is 1 in `t`, it was in `s`, or `t` holds NOTIFY, or a violation ended the transaction. -/
def RiseNotified (s t : State) : Prop :=
  Running t → intr t = true → intr s = true ∨ Event.notify ∈ t.out.events

theorem RiseNotified.of_eligible_eq {s t : State} (h : eligible t.lapic = eligible s.lapic) : RiseNotified s t :=
  fun _ ht => .inl (by rwa [intr, h] at ht)

/-- A delivery step that starts where the arbiter chooses as in `s`. -/
theorem DeliveryStep.riseNotified {s s' t : State} (h : DeliveryStep s' t)
    (hs : eligible s'.lapic = eligible s.lapic) : RiseNotified s t :=
  fun _ ht => (h.notified ht).imp_left fun hrise => by rwa [intr, hs] at hrise

/-- R128: what ends with `check_vector()` notifies whenever INTR is 1. -/
theorem checkVector_riseNotified (s r : State) : RiseNotified s (checkVector r) := by
  intro _ ht
  obtain ⟨es, he, hnotify⟩ := checkVector_eq r
  rw [he] at ht ⊢
  exact .inr (List.mem_append_right _ (hnotify ht))

theorem andThen_checkVector_riseNotified (s r : State) : RiseNotified s (andThen r checkVector) := by
  cases hr : r.faulted with
  | none => rw [andThen_running hr]; exact checkVector_riseNotified s r
  | some c =>
    rw [andThen_faulted hr]
    exact fun hrun => by rw [Running, hr] at hrun; cases hrun

/-- R131: the EOI ends with `check_vector()`, or finds ISR empty and changes nothing. -/
theorem endOfInterrupt_riseNotified (s : State) : RiseNotified s (endOfInterrupt s) := by
  cases hv : highest s.lapic.isr with
  | none => rw [endOfInterrupt_of_none hv]; exact .of_eligible_eq rfl
  | some v =>
    cases htmr : getBit s.lapic.tmr v with
    | false => rw [endOfInterrupt_of_edge hv htmr]; exact andThen_checkVector_riseNotified s _
    | true => rw [endOfInterrupt_of_level hv htmr]; exact andThen_checkVector_riseNotified s _

/-- R144, R145: a TICK moves the arbiter by an expiry's delivery only. -/
theorem timer_riseNotified (now : Nat) (s : State) : RiseNotified s (timer now s) := by
  by_cases ha : Advances now s.lapic
  · by_cases hc : timerSteps s.lapic now < s.lapic.timerCurrent
    · rw [timer_counts ha hc]; exact .of_eligible_eq rfl
    · rw [timer_expires ha hc]
      rcases expire_cases (timerSteps s.lapic now - s.lapic.timerCurrent) (consumed now s) with
        ⟨_, h⟩ | ⟨_, h⟩ | ⟨_, h⟩ <;> rw [h]
      · exact (fireTimer_step (setCurrent _ (consumed now s))).riseNotified rfl
      · exact (fireTimer_step (setCurrent _ (consumed now s))).riseNotified rfl
      · unfold raiseViolation
        split <;> exact .of_eligible_eq rfl
  · rw [timer_idle ha]; exact .of_eligible_eq rfl

/-- R129: an ACK with INTR 0 is spurious and changes nothing. -/
theorem acknowledge_riseNotified (s : State) : RiseNotified s (acknowledge s) := by
  cases hv : eligible s.lapic with
  | none => rw [acknowledge_of_none hv]; exact .of_eligible_eq rfl
  | some v => exact fun _ _ => .inl (by rw [intr, hv]; rfl)

/-- Each transaction that may deliver notifies a rise of INTR. -/
theorem body_riseNotified_of_mayDeliver {i : Instr} (hi : MayDeliver i) (s : State) : RiseNotified s (body i s) := by
  rcases hi with ⟨k, rfl⟩ | ⟨d, hd⟩ | ⟨d, rfl⟩ | ⟨v, rfl⟩ | ⟨n, rfl⟩ | ⟨d, rfl⟩ | ⟨a, rfl⟩
  · exact (onLine_step k s fun j => setIrq_step j s).riseNotified rfl
  · rw [← body_carrier, hd]; exact (writeIowin_step _ d s).riseNotified rfl
  · exact endOfInterrupt_riseNotified s
  · exact (remoteEoi_step v s).1.riseNotified rfl
  · exact timer_riseNotified n s
  · exact (dispatchIpi_step d _ (s.withLapic { s.lapic with icr0 := storedIcrLow d })).1.riseNotified rfl
  · exact (route_step a s).riseNotified rfl

/-- R127: the arbiter's choice stands but for ACK, the TPR write and what may deliver. -/
theorem LapicEffect.eligible_cases {l l' : Lapic} {i : Instr} (h : LapicEffect l i l') :
    eligible l' = eligible l ∨ i = .ack ∨ (∃ d, i = .w32LapicTpr d) ∨ MayDeliver i := by
  cases h with
  | ack => exact .inr (.inl rfl)
  | tpr d => exact .inr (.inr (.inl ⟨d, rfl⟩))
  | deliver hi => exact .inr (.inr (.inr hi))
  | icrLow | tick | retire => simp [MayDeliver]
  | _ => exact .inl rfl

/-- R130: the body of every ordinary transaction notifies a rise of INTR. -/
theorem body_riseNotified (i : Instr) (s : State) : RiseNotified s (body i s) := by
  rcases (body_effect i s).lapic.eligible_cases with hkept | rfl | ⟨d, rfl⟩ | hmay
  · exact .of_eligible_eq hkept
  · exact acknowledge_riseNotified s
  · exact checkVector_riseNotified s _
  · exact body_riseNotified_of_mayDeliver hmay s

/-- R201: RESET leaves no request, so INTR is 0. -/
theorem intr_resetState (now : Nat) (s : State) : intr (resetState now s) = false := by
  have hnone : eligible (lapicReset now) = none := by
    refine (eligible_eq_none_iff _).2 fun v ⟨⟨hreq, _⟩, _⟩ => ?_
    have hempty : getBit (0#256) v = false := (forall_getBit_eq_false_iff _).2 rfl v
    exact absurd (hempty.symm.trans hreq) (by decide)
  rw [intr, resetState_lapic, hnone]
  rfl

/-- Settles O39: RESET leaves INTR 0, and the body of every other transaction but RESTORE notifies the rise. -/
theorem risingIntrNotifies : Obligations.RisingIntrNotifies := by
  intro i s t hx hrestore hrun h₀ h₁
  have hordinary : Instr.Ordinary i → Event.notify ∈ t.out.events := fun hi => by
    obtain ⟨_, rfl⟩ := exec_ordinary_next hi hx
    refine (body_riseNotified i (clearOut s) hrun h₁).resolve_left fun hrise => ?_
    exact absurd (h₀.symm.trans hrise) (by decide)
  cases i with
  | reset now => cases hx; exact absurd ((intr_resetState now s).symm.trans h₁) (by decide)
  | restore r => exact absurd rfl (hrestore r)
  | _ => exact hordinary trivial

end Sys2Proof.Machine

/-! # Family 43_lapic_timer: TICK

A TICK by which the count does not expire is `countDown` of its steps, also where it takes none; `countDown` composes,
so the remainder of an interval is carried (R144). An expiry's delivery is `delivered` of the LVT's vector (R145). Every
TICK keeps a periodic count in its range (R146), and so does a run of them. -/

namespace Sys2Proof.Machine

open Sys2Proof.Safety

/-! ## Counting down (R144) -/

/-- `l` after `n` whole steps of the timer, fewer than its count. -/
def countDown (n : Nat) (l : Lapic) : Lapic :=
  { l with nextTick := l.nextTick + n * 2 ^ l.timerShift, timerCurrent := l.timerCurrent - n }

theorem countDown_zero (l : Lapic) : countDown 0 l = l := by simp [countDown]

theorem countDown_countDown (m n : Nat) (l : Lapic) : countDown m (countDown n l) = countDown (n + m) l := by
  simp only [countDown, Nat.add_mul, Nat.add_assoc, Nat.sub_sub]

/-- R144: the steps already consumed are not taken again, and the remainder is not lost. -/
theorem timerSteps_countDown (n now : Nat) (l : Lapic) :
    timerSteps (countDown n l) now = timerSteps l now - n := by
  show (now - (l.nextTick + n * 2 ^ l.timerShift)) / 2 ^ l.timerShift = (now - l.nextTick) / 2 ^ l.timerShift - n
  rw [← Nat.sub_sub, Nat.mul_comm n, Nat.sub_mul_div]

theorem timerSteps_mono {a b : Nat} (h : a ≤ b) (l : Lapic) : timerSteps l a ≤ timerSteps l b :=
  Nat.div_le_div_right (Nat.sub_le_sub_right h _)

theorem not_advances_iff {now : Nat} {l : Lapic} :
    ¬ Advances now l ↔ l.timerCurrent = 0 ∨ now ≤ l.nextTick ∨ timerSteps l now = 0 := by
  rw [Advances]; omega

/-- R144: a `now` that is not later than the reference time takes no step. -/
theorem timerSteps_of_le {now : Nat} {l : Lapic} (h : now ≤ l.nextTick) : timerSteps l now = 0 := by
  rw [timerSteps, Nat.sub_eq_zero_of_le h, Nat.zero_div]

/-- R144: a TICK by which the count does not expire. -/
theorem timer_eq_countDown {now : Nat} {s : State} (h : timerSteps s.lapic now < s.lapic.timerCurrent) :
    timer now s = s.withLapic (countDown (timerSteps s.lapic now) s.lapic) := by
  by_cases ha : Advances now s.lapic
  · exact timer_counts ha h
  · have hsteps : timerSteps s.lapic now = 0 := by
      rcases not_advances_iff.1 ha with h0 | hle | h0
      · omega
      · exact timerSteps_of_le hle
      · exact h0
    rw [timer_idle ha, hsteps, countDown_zero]
    rfl

/-- R144: where the count does not expire by `b`, an earlier TICK takes some of the steps and leaves the rest. -/
theorem timer_timer {a b : Nat} {s : State} (hab : a ≤ b) (hb : timerSteps s.lapic b < s.lapic.timerCurrent) :
    timer b (timer a s) = timer b s := by
  have hmono := timerSteps_mono hab s.lapic
  have hrest : timerSteps (countDown (timerSteps s.lapic a) s.lapic) b <
      s.lapic.timerCurrent - timerSteps s.lapic a := by
    rw [timerSteps_countDown]
    exact Nat.sub_lt_sub_right hmono hb
  rw [timer_eq_countDown (now := a) (Nat.lt_of_le_of_lt hmono hb), timer_eq_countDown (now := b) hb,
    timer_eq_countDown (s := s.withLapic (countDown _ s.lapic)) hrest]
  simp only [State.withLapic_lapic, timerSteps_countDown, countDown_countDown, Nat.add_sub_cancel' hmono]
  rfl

theorem exec_tick {s : State} (hs : Running s) (now : Nat) : exec (.tick now) s = .next (timer now (clearOut s)) :=
  exec_ordinary_running trivial hs

/-- Settles O26: the TICK of `a` only counts down, so the block runs on with no output, and `timer_timer` applies. -/
theorem tickSpacingDoesNotMatter : Obligations.TickSpacingDoesNotMatter := by
  intro s t a b hab hb hx
  obtain ⟨hs, rfl⟩ := exec_ordinary_next (i := .tick a) trivial hx
  have hfirst : body (.tick a) (clearOut s) = (clearOut s).withLapic (countDown (timerSteps s.lapic a) s.lapic) :=
    timer_eq_countDown (s := clearOut s) (Nat.lt_of_le_of_lt (timerSteps_mono hab s.lapic) hb)
  have htwice : timer b (body (.tick a) (clearOut s)) = timer b (clearOut s) := timer_timer hab hb
  rw [exec_tick hs, ← htwice, hfirst]
  exact exec_tick (s := (clearOut s).withLapic _) hs b

/-! ## Everything a TICK does (R144, R145) -/

/-- The delivery of an expiry: the LVT's vector, fixed and edge (R145). -/
def timerArgs (lvt : Word) : RouteArgs :=
  { vector := vectorField lvt, mode := 0#3, isLevel := false, destination := 0#8, destMode := false }

/-- R145: what an expiry that has left `s` delivers, as claims state results: nothing where the LVT is masked. -/
def fired (s : State) : State :=
  if isMasked s.lapic.lvtTimer = true then quiet s else delivered (timerArgs s.lapic.lvtTimer) s

theorem fireTimer_clearOut (s : State) : fireTimer (clearOut s) = fired s := by
  rw [fired, ← route_clearOut]
  rfl

/-- R145: what an expiry leaves, by the timer mode. -/
theorem expire_clearOut (past : Nat) (s : State) :
    expire past (clearOut s) =
      if timerModeField s.lapic.lvtTimer = 1#2 then fired (setCurrent (reloadCount s.lapic.timerInitial.toNat past) s)
      else if timerModeField s.lapic.lvtTimer = 0#2 then fired (setCurrent 0 s)
      else violated .a8BadTimerMode s (quiet (setCurrent 0 s)) := by
  rcases expire_cases past (clearOut s) with ⟨hmode, h⟩ | ⟨hmode, h⟩ | ⟨hmode, h⟩ <;> rw [clearOut_lapic] at hmode
  · rw [h, if_neg (by rw [hmode]; decide), if_pos hmode]
    exact fireTimer_clearOut (setCurrent 0 s)
  · rw [h, if_pos hmode]
    exact fireTimer_clearOut (setCurrent _ s)
  · have hneither : timerModeField s.lapic.lvtTimer ≠ 1#2 ∧ timerModeField s.lapic.lvtTimer ≠ 0#2 := by
      rcases hmode with hm | hm <;> rw [hm] <;> decide
    rw [h, if_neg hneither.1, if_neg hneither.2]
    rfl

/-- R145: the reloaded count in the integers of the rule. -/
theorem reloadCount_eq_int (initial : Word) (past : Nat) :
    reloadCount initial.toNat past =
      if initial = 0#32 then 0 else ((initial.toNat : Int) - (past : Int) % initial.toNat).toNat := by
  have hzero : initial.toNat = 0 ↔ initial = 0#32 := BitVec.toNat_eq (x := initial) (y := 0#32) |>.symm
  rw [reloadCount]
  simp only [hzero]
  split
  · rfl
  · omega

/-- Settles O24: the TICK is idle, counts, or expires as `expire_clearOut` says. -/
theorem tickAdvancesTheTimer : Obligations.TickAdvancesTheTimer := by
  intro s hs now l steps c advanced expired
  refine ⟨spells_bare 5#4 (by decide) fun _ ht => decode_descriptor ht, ?_⟩
  rw [exec_tick hs]
  congr 1
  have hidle : l.timerCurrent = 0 ∨ now ≤ l.nextTick ∨ steps = 0 ↔ ¬ Advances now (clearOut s).lapic :=
    not_advances_iff.symm
  by_cases ha : Advances now (clearOut s).lapic
  · rw [if_neg fun h => hidle.1 h ha]
    by_cases hc : steps < l.timerCurrent
    · have hcount : c.toNat = l.timerCurrent - steps := by omega
      rw [timer_counts ha hc, if_pos (by omega), hcount]
      rfl
    · have hpast : -c = (steps - l.timerCurrent : Nat) := by omega
      have hexpire := expire_clearOut (steps - l.timerCurrent) (consumed now s)
      rw [timer_expires ha hc, if_neg (by omega), hpast, ← reloadCount_eq_int]
      exact hexpire
  · rw [timer_idle ha, if_pos (hidle.2 ha)]
    rfl

/-! ## The periodic count (R146) -/

/-- R146: a periodic timer with its count in 1 to the initial count. -/
structure PeriodicInRange (l : Lapic) : Prop where
  periodic : timerModeField l.lvtTimer = 1#2
  pos : 1 ≤ l.timerCurrent
  le_initial : l.timerCurrent ≤ l.timerInitial.toNat

/-- What the guest set the timer up with is the same in `l'` as in `l`. -/
structure TimerSetupKept (l l' : Lapic) : Prop where
  lvtTimer : l'.lvtTimer = l.lvtTimer
  timerInitial : l'.timerInitial = l.timerInitial
  timerShift : l'.timerShift = l.timerShift

theorem TimerSetupKept.refl (l : Lapic) : TimerSetupKept l l := ⟨rfl, rfl, rfl⟩

theorem TimerSetupKept.trans {l m n : Lapic} (h₁ : TimerSetupKept l m) (h₂ : TimerSetupKept m n) : TimerSetupKept l n :=
  ⟨h₂.lvtTimer.trans h₁.lvtTimer, h₂.timerInitial.trans h₁.timerInitial, h₂.timerShift.trans h₁.timerShift⟩

/-- R144, R145: of the timer, a TICK changes the count and the reference time only. -/
theorem LapicEffect.timerSetupKept {l l' : Lapic} {now : Nat} (h : LapicEffect l (.tick now) l') :
    TimerSetupKept l l' := by
  cases h with
  | kept | deliver | tick => exact ⟨rfl, rfl, rfl⟩

theorem timer_setupKept (now : Nat) (s : State) : TimerSetupKept s.lapic (timer now s).lapic :=
  (timer_effect now s).lapic.timerSetupKept

/-- R145: a periodic expiry reloads the count. -/
theorem expire_of_periodic (past : Nat) {s : State} (h : timerModeField s.lapic.lvtTimer = 1#2) :
    expire past s = fireTimer (setCurrent (reloadCount s.lapic.timerInitial.toNat past) s) := by
  rw [expire, h]
  rfl

theorem fireTimer_timerCurrent (s : State) : (fireTimer s).lapic.timerCurrent = s.lapic.timerCurrent := by
  rw [(fireTimer_step s).lapic]

/-- R146: the count a TICK leaves, counted down or reloaded. -/
theorem timer_count_bounds (now : Nat) {s : State} (h : PeriodicInRange s.lapic) :
    1 ≤ (timer now s).lapic.timerCurrent ∧ (timer now s).lapic.timerCurrent ≤ s.lapic.timerInitial.toNat := by
  obtain ⟨hmode, hpos, hle⟩ := h
  have hinitial : s.lapic.timerInitial.toNat ≠ 0 := by omega
  by_cases hc : timerSteps s.lapic now < s.lapic.timerCurrent
  · rw [timer_eq_countDown hc, State.withLapic_lapic, countDown]
    exact ⟨Nat.sub_pos_of_lt hc, (Nat.sub_le _ _).trans hle⟩
  · by_cases ha : Advances now s.lapic
    · rw [timer_expires ha hc, expire_of_periodic (s := consumed now s) _ hmode, fireTimer_timerCurrent]
      exact reloadCount_bounds hinitial
    · rw [timer_idle ha]; exact ⟨hpos, hle⟩

theorem timer_periodicInRange (now : Nat) {s : State} (h : PeriodicInRange s.lapic) :
    PeriodicInRange (timer now s).lapic := by
  have hkept := timer_setupKept now s
  obtain ⟨hpos, hle⟩ := timer_count_bounds now h
  exact ⟨by rw [hkept.lvtTimer]; exact h.periodic, hpos, by rw [hkept.timerInitial]; exact hle⟩

/-- A run of at least one step is the step and the rest of the run. -/
theorem run_succ_eq_next_iff (M : Host.Core) {k : Nat} {s t : M.State} :
    M.run (k + 1) s = .next t ↔ ∃ u, M.step s = .next u ∧ M.run k u = .next t := by
  rw [Host.Core.run]
  cases M.step s <;> simp

/-- A step whose oldest transaction is a TICK keeps the invariant and the timer's setup. -/
theorem step_tick_periodicInRange {s u : State} {now : Nat} {rest : List Tx} (h : PeriodicInRange s.lapic)
    (hq : s.pending = encode (.tick now) :: rest) (hstep : step s = .next u) :
    PeriodicInRange u.lapic ∧ TimerSetupKept s.lapic u.lapic ∧ u.pending = rest := by
  rw [step_of_decode hq (decode_encode (i := .tick now) rfl)] at hstep
  obtain ⟨_, rfl⟩ := exec_ordinary_next (i := .tick now) trivial hstep
  exact ⟨timer_periodicInRange now h, timer_setupKept now (clearOut (s.withPending rest)),
    (timer_keepsParamsAndQueue now _).pending⟩

/-- R146: the invariant along a run of TICKs, by induction on what is issued. -/
theorem run_ticks_periodicInRange (nows : List Nat) {s t : State} (h : PeriodicInRange s.lapic)
    (hq : s.pending = nows.map fun now => encode (.tick now))
    (hrun : Host.Core.run Sys2Proof.core nows.length s = .next t) :
    PeriodicInRange t.lapic ∧ TimerSetupKept s.lapic t.lapic := by
  induction nows generalizing s with
  | nil => cases hrun; exact ⟨h, .refl _⟩
  | cons now nows ih =>
    obtain ⟨u, hstep, hrest⟩ := (run_succ_eq_next_iff core).1 hrun
    obtain ⟨hu, hkept, hqu⟩ := step_tick_periodicInRange h hq hstep
    obtain ⟨ht, hkept'⟩ := ih hu hqu hrest
    exact ⟨ht, hkept.trans hkept'⟩

/-- Settles O25: the invariant holds at the end of the run. -/
theorem ticksKeepThePeriodicCountInRange : Obligations.TicksKeepThePeriodicCountInRange := by
  intro s t nows hmode hpos hle hq hrun
  obtain ⟨ht, hkept⟩ := run_ticks_periodicInRange nows ⟨hmode, hpos, hle⟩ hq hrun
  exact ⟨ht.pos, ht.le_initial, hkept.timerInitial, hkept.timerShift⟩

end Sys2Proof.Machine

/-! # Family 44_ioapic: the IOAPIC's accesses, lines and REMOTE_EOI

An IOWIN access and the row its index selects are one read or write of what IOWIN reaches (R75). `check_irq` leaves what
`lineChecked` says (R160), and so the config write and RAISE do. Only a check of an entry's line sets its remote IRR,
and only a REMOTE_EOI clears it (R166, R167). -/

namespace Sys2Proof.Machine

open Sys2Proof.Safety

/-! ## Descriptors of the window and of the lines (R68, R74) -/

theorem spells_read_of_descriptor {d : Word} {i : Instr} {space wcode : BitVec 2} {off : Offset}
    (hd : d = descriptor 0#4 space wcode off) (hi : decodeRead space wcode off = .ok i) : Spells d (fun _ => i) :=
  fun _ ht => (decode_read (ht.trans hd)).trans hi

theorem spells_write_of_descriptor {d : Word} {f : Tx → Instr} {space wcode : BitVec 2} {off : Offset}
    (hd : d = descriptor 1#4 space wcode off)
    (hf : ∀ t : Tx, decodeWrite space wcode off t.data t.now = .ok (f t)) : Spells d f :=
  fun t ht => (decode_write (ht.trans hd)).trans (hf t)

/-- RAISE and LOWER carry their line in the bits of the offset. -/
theorem spells_line {d : Word} (kind : BitVec 4) {line : Offset} {i : Instr} (hd : d = descriptor kind 0#2 0#2 0#20)
    (hi : ∀ t : Tx, t.desc = descriptor kind 0#2 0#2 line → decode t = .ok i) :
    Spells (atOffset d line) (fun _ => i) := by
  intro t ht
  rw [hd, atOffset_descriptor] at ht
  exact hi t ht

/-! ## IOREGSEL (R148, R149) -/

/-- A write whose body stores `io` leaves `io` and nothing else changed. -/
theorem exec_ioapicStore {i : Instr} {s : State} {io : IoApic} (hi : Instr.Ordinary i) (hs : Running s)
    (hbody : body i (clearOut s) = (clearOut s).withIoapic io) : exec i s = .next (quiet { s with ioapic := io }) := by
  rw [exec_ordinary_running hi hs, hbody]
  rfl

/-- Settles O40: the read answers with the select register, and the write stores it. -/
theorem ioregselHoldsTheIndex : Obligations.IoregselHoldsTheIndex :=
  fun _ hs _ => ⟨spells_read_of_descriptor (space := 1#2) (wcode := 2#2) (off := ioregselOffset) (by decide) rfl,
    spells_write_of_descriptor (space := 1#2) (wcode := 2#2) (off := ioregselOffset) (by decide) fun _ => rfl,
    exec_ordinary_running (i := .r32Ioregsel) trivial hs, exec_ioapicStore trivial hs rfl⟩

/-! ## IOWIN (R150 to R159, R164) -/

section
variable {s : State} {r : IowinReg}

/-- R150: the IOWIN read, and its row, read what the index selects. -/
theorem exec_iowinRead (hs : Running s) (hsel : iowinRegAt s.ioapic.ioregsel = r) :
    ∀ i ∈ [Instr.r32Iowin, iowinRow r none],
      exec i s = .next (finishRead .data32 (readIowin r (clearOut s))) := by
  have hexec : exec .r32Iowin s = .next (finishRead .data32 (readIowin r (clearOut s))) := by
    rw [exec_ordinary_running (i := .r32Iowin) trivial hs, ← hsel]
    rfl
  have hrow := exec_carrier (iowinRow r none) s
  rw [(carrier_iowinRow r 0#32).1] at hrow
  simp only [List.forall_mem_cons, List.not_mem_nil, false_implies, implies_true, and_true]
  exact ⟨hexec, hrow.symm.trans hexec⟩

/-- R151: the IOWIN write, and its row, write what the index selects. -/
theorem exec_iowinWrite (hs : Running s) (hsel : iowinRegAt s.ioapic.ioregsel = r) (d : Word) :
    ∀ i ∈ [Instr.w32Iowin d, iowinRow r (some d)], exec i s = .next (writeIowin r d (clearOut s)) := by
  have hexec : exec (.w32Iowin d) s = .next (writeIowin r d (clearOut s)) := by
    rw [exec_ordinary_running (i := .w32Iowin d) trivial hs, ← hsel]
    rfl
  have hrow := exec_carrier (iowinRow r (some d)) s
  rw [(carrier_iowinRow r d).2] at hrow
  simp only [List.forall_mem_cons, List.not_mem_nil, false_implies, implies_true, and_true]
  exact ⟨hexec, hrow.symm.trans hexec⟩

end

/-- Settles O41: by what the index selects. -/
theorem iowinReadsReturnTheSelectedRegister : Obligations.IowinReadsReturnTheSelectedRegister :=
  fun _ hs => ⟨spells_read_of_descriptor (space := 1#2) (wcode := 2#2) (off := iowinOffset) (by decide) rfl,
    fun h => exec_iowinRead hs (iowinRegAt_id h),
    fun h => exec_iowinRead hs (iowinRegAt_version h),
    fun h => exec_iowinRead hs (iowinRegAt_arbitration h),
    fun _ h => exec_iowinRead hs (iowinRegAt_config h),
    fun _ h => exec_iowinRead hs (iowinRegAt_destination h)⟩

/-- R156: a write at one of the read-only indices. -/
theorem exec_iowinWrite_readOnly {s : State} (hs : Running s)
    (h : s.ioapic.ioregsel.toNat = 0x01 ∨ s.ioapic.ioregsel.toNat = 0x02) (d : Word) :
    ∀ i ∈ [Instr.w32Iowin d, .w32IowinReadOnly d], exec i s = .next (violated .a6BadIoapicIndex s (quiet s)) := by
  rw [← violatingWrite_clearOut]
  rcases h with h | h
  · exact exec_iowinWrite hs (iowinRegAt_version h) d
  · exact exec_iowinWrite hs (iowinRegAt_arbitration h) d

/-- Settles O42: by what the index selects; each body but that of the read-only indices is a store. -/
theorem iowinWritesReachTheSelectedRegister : Obligations.IowinWritesReachTheSelectedRegister :=
  fun _ hs d => ⟨spells_write_of_descriptor (space := 1#2) (wcode := 2#2) (off := iowinOffset) (by decide) fun _ => rfl,
    fun h => exec_iowinWrite hs (iowinRegAt_id h) d,
    fun h => exec_iowinWrite_readOnly hs h d,
    fun _ h => exec_iowinWrite hs (iowinRegAt_destination h) d⟩

/-- Settles O43: the index selects nothing, in either direction. -/
theorem unknownIowinIndexIsBadIndex : Obligations.UnknownIowinIndexIsBadIndex := by
  intro s hs d h
  rw [← finishRead_violatingRead_clearOut, ← violatingWrite_clearOut]
  exact ⟨exec_iowinRead hs (iowinRegAt_unknown h), exec_iowinWrite hs (iowinRegAt_unknown h) d⟩

/-! ## The check of a line (R160) -/

/-- R160: the attempt in a transaction that has emitted nothing yet, as claims state results. -/
theorem attempt_clearOut (i : Line) (cfg : Word) (s : State) :
    attempt i cfg (clearOut s) =
      if DeliveringMode (modeField cfg) then statusCleared i (delivered (entryArgs cfg (destOf s.ioapic i)) s)
      else statusCleared i (violated .a4BadDeliveryMode s (quiet s)) := by
  unfold attempt
  split
  · rw [route_clearOut]; rfl
  · rw [← violatingWrite_clearOut]; rfl

section
variable {k : Line} {s : State}

/-- R160: a line that is not attempted. -/
theorem lineChecked_of_not_attempted (h : ¬ Attempted s.ioapic k) : lineChecked k s = quiet s := by
  rw [lineChecked, if_pos h]

/-- R160: an edge entry loses its pending bit before the attempt. -/
theorem lineChecked_of_edge (h : Attempted s.ioapic k) (hedge : isLevelField (configOf s.ioapic k) = false) :
    lineChecked k s =
      attempt k (configOf s.ioapic k) (clearOut (setIoIrr (clearLine s.ioapic.irr k) s)) := by
  have hedge' : ¬ (configOf s.ioapic k).getLsbD 15 = true := Bool.eq_false_iff.1 hedge
  rw [lineChecked, if_neg (not_not.2 h)]
  dsimp only
  rw [if_neg hedge', attempt_clearOut]
  rfl

/-- R160: a level entry gains remote IRR before the attempt. -/
theorem lineChecked_of_level (h : Attempted s.ioapic k) (hlevel : isLevelField (configOf s.ioapic k) = true) :
    lineChecked k s =
      attempt k (configOf s.ioapic k) (clearOut (setConfig k (setRemoteIrr (configOf s.ioapic k)) s)) := by
  have hlevel' : (configOf s.ioapic k).getLsbD 15 = true := hlevel
  rw [lineChecked, if_neg (not_not.2 h)]
  dsimp only
  rw [if_pos hlevel', attempt_clearOut]
  rfl

end

/-- R160: `check_irq` in a transaction that has emitted nothing yet leaves what `lineChecked` says. -/
theorem checkIrq_clearOut (k : Line) (s : State) : checkIrq k (clearOut s) = lineChecked k s := by
  rcases checkIrq_cases k (clearOut s) with
    ⟨hidle, h⟩ | ⟨hpend, hmask, hedge, h⟩ | ⟨hpend, hmask, hlevel, hrirr, h⟩ <;> rw [h]
  · refine (lineChecked_of_not_attempted fun ⟨hpend, hmask, hserved⟩ => ?_).symm
    rcases hidle with hidle | hidle | hidle
    · exact absurd (hpend.symm.trans hidle) (by decide)
    · exact absurd (hmask.symm.trans hidle) (by decide)
    · exact hserved hidle
  · have hattempted : Attempted s.ioapic k := ⟨hpend, hmask, fun hl => absurd (hedge.symm.trans hl.1) (by decide)⟩
    exact (lineChecked_of_edge hattempted hedge).symm
  · have hattempted : Attempted s.ioapic k := ⟨hpend, hmask, fun hl => absurd (hrirr.symm.trans hl.2) (by decide)⟩
    exact (lineChecked_of_level hattempted hlevel).symm

/-- Settles O44: the merge, then the check of the line. -/
theorem configWriteMergesAndChecksTheLine : Obligations.ConfigWriteMergesAndChecksTheLine := by
  intro s hs k d h
  rw [← checkIrq_clearOut]
  exact exec_iowinWrite hs (iowinRegAt_config h) d

/-! ## RAISE and LOWER (R161, R162) -/

section
variable {line : Offset} {f : Line → State → State} {s : State}

theorem onLine_of_eq {k : Line} (h : line.toNat = k.val) : onLine line f s = f k s := by
  have hlt : line.toNat < 24 := h ▸ k.isLt
  have hk : (⟨line.toNat, hlt⟩ : Line) = k := Fin.ext h
  rw [onLine, dif_pos hlt, hk]

/-- A5: a line number from 24 up. -/
theorem onLine_clearOut_of_le (h : 24 ≤ line.toNat) : onLine line f (clearOut s) = violated .a5BadLine s (quiet s) := by
  rw [onLine, dif_neg (Nat.not_lt.2 h)]
  exact violatingWrite_clearOut _ s

end

/-- R161: everything RAISE of a line that exists can do. -/
theorem setIrq_cases (i : Line) (s : State) :
    (s.ioapic.irqValue.getLsbD i = true ∧ setIrq i s = s) ∨
    (isLevelField (configOf s.ioapic i) = false ∧ isMasked (configOf s.ioapic i) = true ∧
      setIrq i s = setIrqValue (setLine s.ioapic.irqValue i) s) ∨
    setIrq i s = checkIrq i (setIoIrr (setLine s.ioapic.irr i) (setIrqValue (setLine s.ioapic.irqValue i) s)) := by
  simp only [setIrq]
  split
  · next hasserted => exact .inl ⟨hasserted, rfl⟩
  split
  · next hmasked => exact .inr (.inl ⟨hmasked.1, hmasked.2, rfl⟩)
  · exact .inr (.inr rfl)

/-- Settles O45: a line that is asserted, a masked edge entry, and any other. -/
theorem raiseMarksAndChecksTheLine : Obligations.RaiseMarksAndChecksTheLine := by
  intro s hs line
  have hexec : exec (.raiseLine line) s = .next (onLine line setIrq (clearOut s)) := exec_ordinary_running trivial hs
  rw [hexec]
  refine ⟨spells_line 2#4 (by decide) fun _ ht => decode_descriptor ht,
    fun hle => by rw [onLine_clearOut_of_le hle], fun k hk => ?_⟩
  intro marked
  rw [onLine_of_eq hk, ← checkIrq_clearOut]
  rfl

/-- R162: the line is deasserted, and the pending bit of a level entry cleared. -/
theorem clearIrq_eq (i : Line) (s : State) :
    clearIrq i s = s.withIoapic
      { s.ioapic with
        irqValue := clearLine s.ioapic.irqValue i
        irr := if isLevelField (configOf s.ioapic i) = true then clearLine s.ioapic.irr i else s.ioapic.irr } := by
  cases hlevel : isLevelField (configOf s.ioapic i) with
  | true => exact if_pos hlevel
  | false => exact if_neg (Bool.eq_false_iff.1 hlevel)

/-- Settles O46: a level entry and an edge entry. -/
theorem lowerDeassertsTheLine : Obligations.LowerDeassertsTheLine := by
  intro s hs line
  have hexec : exec (.lowerLine line) s = .next (onLine line clearIrq (clearOut s)) := exec_ordinary_running trivial hs
  rw [hexec]
  refine ⟨spells_line 3#4 (by decide) fun _ ht => decode_descriptor ht,
    fun hle => by rw [onLine_clearOut_of_le hle], fun k hk => ?_⟩
  rw [onLine_of_eq hk, clearIrq_eq]
  rfl

/-! ## Remote IRR (R166, R167) -/

/-- Entry `k`'s remote IRR is in `io'` as in `io`, or it is set and the entry is a level entry. -/
def RemoteIrrKeptOrSet (k : Line) (io io' : IoApic) : Prop :=
  remoteIrr (configOf io' k) = remoteIrr (configOf io k) ∨
    (remoteIrr (configOf io' k) = true ∧ isLevelField (configOf io' k) = true)

/-- R160: a check of a line sets the remote IRR of a level entry only, and clears none. -/
theorem checkIrq_remoteIrr (k : Line) (s : State) : RemoteIrrKeptOrSet k s.ioapic (checkIrq k s).ioapic := by
  rcases checkIrq_cases k s with ⟨_, h⟩ | ⟨_, _, _, h⟩ | ⟨_, _, hlevel, _, h⟩ <;> rw [h]
  · exact .inl rfl
  · exact .inl (attempt_step k _ (setIoIrr _ s)).2.2.1
  · obtain ⟨_, hentry, hrirr, _⟩ :=
      attempt_step k (configOf s.ioapic k) (setConfig k (setRemoteIrr (configOf s.ioapic k)) s)
    have hset : configOf (setConfig k (setRemoteIrr (configOf s.ioapic k)) s).ioapic k =
        setRemoteIrr (configOf s.ioapic k) := by rw [configOf_setConfig, if_pos rfl]
    refine .inr ⟨by rw [hrirr, hset, remoteIrr_setRemoteIrr], ?_⟩
    rw [isLevelField, hentry.bits 15 (by decide) (by decide) (by decide), hset]
    exact (isLevelField_setRemoteIrr _).trans hlevel

theorem setIrq_remoteIrr (k : Line) (s : State) : RemoteIrrKeptOrSet k s.ioapic (setIrq k s).ioapic := by
  rcases setIrq_cases k s with ⟨_, h⟩ | ⟨_, _, h⟩ | h <;> rw [h]
  · exact .inl rfl
  · exact .inl rfl
  · exact checkIrq_remoteIrr k (setIoIrr _ (setIrqValue _ s))

/-- R158: the merge keeps remote IRR. -/
theorem writeConfig_remoteIrr (k : Line) (d : Word) (s : State) :
    RemoteIrrKeptOrSet k s.ioapic (writeConfig k d s).ioapic := by
  have hmerged : remoteIrr (configOf (setConfig k (mergeConfig d (configOf s.ioapic k)) s).ioapic k) =
      remoteIrr (configOf s.ioapic k) := by rw [configOf_setConfig, if_pos rfl, remoteIrr_mergeConfig]
  exact (checkIrq_remoteIrr k (setConfig k _ s)).imp_left fun h => h.trans hmerged

/-- R166, R167: of the transactions that may change a config word, only a REMOTE_EOI may clear its remote IRR or set it
on an edge entry. -/
theorem exec_ordinary_remoteIrr {i : Instr} {s t : State} (hx : exec i s = .next t) (hi : Instr.Ordinary i) (k : Line) :
    RemoteIrrKeptOrSet k s.ioapic t.ioapic ∨ Releases s.lapic s.ioapic i k := by
  rcases (exec_effect hx hi).ioapic.configOf_cases k with hkept | rfl | ⟨d, hcarrier, hsel⟩ | hreleases
  · exact .inl (.inl (by rw [hkept]))
  · obtain ⟨_, rfl⟩ := exec_ordinary_next hi hx
    have hline : (BitVec.ofNat 20 k.val).toNat = k.val := by
      rw [BitVec.toNat_ofNat, Nat.mod_eq_of_lt (by omega)]
    rw [body, onLine_of_eq hline]
    exact .inl (setIrq_remoteIrr k (clearOut s))
  · obtain ⟨_, rfl⟩ := exec_ordinary_next hi hx
    have hbody : body i (clearOut s) = writeConfig k d (clearOut s) := by
      rw [← body_carrier, hcarrier, body, iowinWriteBody, selected, clearOut_ioapic, iowinRegAt_config hsel, writeIowin]
    rw [hbody]
    exact .inl (writeConfig_remoteIrr k d (clearOut s))
  · exact .inr hreleases

/-- Settles O49: whatever keeps or sets remote IRR does not clear it. -/
theorem onlyRemoteEoiClearsRemoteIrr : Obligations.OnlyRemoteEoiClearsRemoteIrr := by
  intro i s t k hx hreset hrestore h₁ h₀
  rcases exec_ordinary_remoteIrr hx (ordinary_of_ne hreset hrestore) k with (hkept | ⟨hset, _⟩) | hreleases
  · exact absurd ((h₁.symm.trans hkept.symm).trans h₀) (by decide)
  · exact absurd (hset.symm.trans h₀) (by decide)
  · exact hreleases.2

/-- R201: RESET leaves no entry with remote IRR set. -/
theorem remoteIrr_resetState (now : Nat) (s : State) (k : Line) :
    remoteIrr (configOf (resetState now s).ioapic k) = false := by
  have hreset : ∀ j : Line, remoteIrr (configOf ioapicReset j) = false := by decide
  exact hreset k

/-- Settles O50: a REMOTE_EOI changes only entries whose remote IRR was set before. -/
theorem onlyLevelEntriesSetRemoteIrr : Obligations.OnlyLevelEntriesSetRemoteIrr := by
  intro i s t k hx hrestore h₀ h₁
  have hordinary : Instr.Ordinary i → (configOf t.ioapic k).getLsbD 15 = true := fun hi => by
    rcases exec_ordinary_remoteIrr hx hi k with (hkept | ⟨_, hlevel⟩) | hreleases
    · exact absurd ((h₀.symm.trans hkept.symm).trans h₁) (by decide)
    · exact hlevel
    · exact absurd (h₀.symm.trans hreleases.1) (by decide)
  cases i with
  | reset now => cases hx; exact absurd ((remoteIrr_resetState now s k).symm.trans h₁) (by decide)
  | restore r => exact absurd rfl (hrestore r)
  | _ => exact hordinary trivial

/-- R160, R167: a level entry in service is not attempted, whatever the merge or the RAISE before the check stored. -/
theorem checkIrq_of_inService {k : Line} {s : State} (hlevel : isLevelField (configOf s.ioapic k) = true)
    (hrirr : remoteIrr (configOf s.ioapic k) = true) : checkIrq k s = s := by
  rcases checkIrq_cases k s with ⟨_, h⟩ | ⟨_, _, hedge, _⟩ | ⟨_, _, _, hclear, _⟩
  · exact h
  · exact absurd (hlevel.symm.trans hedge) (by decide)
  · exact absurd (hrirr.symm.trans hclear) (by decide)

/-- R167: RAISE of a level entry in service changes line bits only. -/
theorem setIrq_of_inService {k : Line} {s : State} (hlevel : isLevelField (configOf s.ioapic k) = true)
    (hrirr : remoteIrr (configOf s.ioapic k) = true) :
    (setIrq k s).lapic = s.lapic ∧ (setIrq k s).out = s.out ∧
      configOf (setIrq k s).ioapic k = configOf s.ioapic k := by
  rcases setIrq_cases k s with ⟨_, h⟩ | ⟨_, _, h⟩ | h
  · rw [h]; exact ⟨rfl, rfl, rfl⟩
  · rw [h]; exact ⟨rfl, rfl, rfl⟩
  · rw [h.trans (checkIrq_of_inService hlevel hrirr)]; exact ⟨rfl, rfl, rfl⟩

/-- R158, R167: a config write that leaves an entry in service a level entry only stores. -/
theorem writeConfig_of_inService {k : Line} {d : Word} {s : State} (hd : isLevelField d = true)
    (hrirr : remoteIrr (configOf s.ioapic k) = true) :
    writeConfig k d s = setConfig k (mergeConfig d (configOf s.ioapic k)) s := by
  have hlevel : isLevelField (mergeConfig d (configOf s.ioapic k)) = true := by
    rw [isLevelField, getLsbD_mergeConfig _ _ _ (by decide), if_pos (by decide)]; exact hd
  have hmerged := configOf_setConfig k k (mergeConfig d (configOf s.ioapic k)) s
  rw [if_pos rfl] at hmerged
  exact checkIrq_of_inService (by rw [hmerged, hlevel]) (by rw [hmerged, remoteIrr_mergeConfig, hrirr])

/-- Settles O51: the check of the line does nothing. -/
theorem entryInServiceDoesNotRouteAgain : Obligations.EntryInServiceDoesNotRouteAgain := by
  intro s hs k hrirr
  refine ⟨fun line hline hlevel => ⟨_, exec_ordinary_running (i := .raiseLine line) trivial hs, ?_⟩,
    fun d hsel hd => ⟨_, exec_iowinWrite hs (iowinRegAt_config hsel) d _ List.mem_cons_self, ?_⟩⟩
  · rw [body, onLine_of_eq hline]
    obtain ⟨hlapic, hout, hcfg⟩ := setIrq_of_inService (s := clearOut s) hlevel hrirr
    exact ⟨hlapic, by rw [hout]; rfl, hcfg⟩
  · rw [writeIowin, writeConfig_of_inService (s := clearOut s) hd hrirr]
    refine ⟨rfl, rfl, ?_⟩
    rw [configOf_setConfig, if_pos rfl]
    exact (remoteIrr_mergeConfig d _).trans hrirr

end Sys2Proof.Machine

/-! # Family 44_ioapic: the scan of REMOTE_EOI (R163)

What the scan has left of an entry and of the LAPIC is said by `EntryScanned` and `LapicScanned`. Releasing one more
entry carries both on (`Scanned.step`) where it does not violate, and under `DIAGNOSTIC` ends the scan where it does. -/

namespace Sys2Proof.Machine

open Sys2Proof.Safety

/-! ## The attempt (R160) -/

/-- The attempt of `check_irq(i)` without the clearing of delivery status: the entry is routed, or its mode is A4. -/
def routeEntry (i : Line) (cfg : Word) (s : State) : State :=
  if DeliveringMode (modeField cfg) then route (entryArgs cfg (destOf s.ioapic i)) s
  else raiseViolation .a4BadDeliveryMode id s

theorem attempt_eq_andThen_routeEntry (i : Line) (cfg : Word) (s : State) :
    attempt i cfg s =
      andThen (routeEntry i cfg s) fun t => setConfig i (clearDelivStatus (configOf t.ioapic i)) t := rfl

theorem routeEntry_ioapic (i : Line) (cfg : Word) (s : State) : (routeEntry i cfg s).ioapic = s.ioapic := by
  unfold routeEntry
  split
  · exact route_ioapic _ s
  · exact raiseViolation_id_ioapic _ s

/-- The entry's mode is one that delivers, and its vector may be delivered: its attempt violates nothing. -/
def Routable (cfg : Word) : Prop := DeliveringMode (modeField cfg) ∧ Deliverable (vectorField cfg)

/-- The violation of an entry that is not routable (R160, R189). -/
def entryViolation (cfg : Word) : Violation :=
  if DeliveringMode (modeField cfg) then .a3BadVector else .a4BadDeliveryMode

/-- The LAPIC after an attempt that did not fault the block: the vector is accepted if it may be and is not pending. -/
inductive LapicRouted (cfg : Word) (l : Lapic) : Lapic → Prop
  | kept (h : ¬ (Routable cfg ∧ getBit l.irr (vectorField cfg) = false)) : LapicRouted cfg l l
  | accepted (h : Routable cfg) (hirr : getBit l.irr (vectorField cfg) = false) :
      LapicRouted cfg l (acceptVector l (vectorField cfg) (isLevelField cfg))

/-- R125: a delivery in a mode that delivers: of a deliverable vector, or A3. -/
theorem deliver_of_delivering {v : Vec} {mode : BitVec 3} (hm : DeliveringMode mode) (isLevel : Bool) (s : State) :
    (¬ Deliverable v ∧ deliver v mode isLevel s = raiseViolation .a3BadVector id s) ∨
    (Deliverable v ∧ getBit s.lapic.irr v = true ∧ deliver v mode isLevel s = logAnomaly .b3Coalesced s) ∨
    (Deliverable v ∧ getBit s.lapic.irr v = false ∧
      deliver v mode isLevel s = checkVector (s.withLapic (acceptVector s.lapic v isLevel))) := by
  rw [Deliverable, ← validVector_iff, Bool.not_eq_true]
  rcases deliver_cases v mode isLevel s with ⟨h, _⟩ | ⟨h, _⟩ | ⟨_, h⟩ | ⟨_, h⟩ | ⟨_, h⟩
  · exact absurd h (not_ignored_of_delivering hm)
  · rcases hm with rfl | rfl <;> exact absurd h (by decide)
  · exact .inl h
  · exact .inr (.inl h)
  · exact .inr (.inr h)

section
variable {i : Line} {cfg : Word} {s : State}

/-- R182: a violating attempt under `DIAGNOSTIC` faults the block and does nothing else. -/
theorem routeEntry_of_violating (hdiag : s.params.diagnostic = true) (h : ¬ Routable cfg) :
    routeEntry i cfg s = s.withFaulted (some (entryViolation cfg)) := by
  unfold routeEntry entryViolation
  by_cases hm : DeliveringMode (modeField cfg)
  · rw [if_pos hm, if_pos hm]
    rcases deliver_of_delivering hm (isLevelField cfg) s with ⟨_, hd⟩ | ⟨hv, _⟩ | ⟨hv, _⟩
    · exact hd.trans (raiseViolation_diagnostic hdiag)
    · exact absurd ⟨hm, hv⟩ h
    · exact absurd ⟨hm, hv⟩ h
  · rw [if_neg hm, if_neg hm, raiseViolation_diagnostic hdiag]

/-- An attempt that violates nothing, or in production, does not fault the block. -/
theorem routeEntry_of_passing (h : s.params.diagnostic = false ∨ Routable cfg) :
    (routeEntry i cfg s).faulted = s.faulted ∧ LapicRouted cfg s.lapic (routeEntry i cfg s).lapic := by
  have hviolates (hbad : ¬ Routable cfg) (c : Violation) (hr : routeEntry i cfg s = raiseViolation c id s) :
      (routeEntry i cfg s).faulted = s.faulted ∧ LapicRouted cfg s.lapic (routeEntry i cfg s).lapic := by
    rw [hr, raiseViolation_production (h.resolve_right hbad)]
    exact ⟨rfl, .kept fun hr => hbad hr.1⟩
  by_cases hm : DeliveringMode (modeField cfg)
  · have hr : routeEntry i cfg s = deliver (vectorField cfg) (modeField cfg) (isLevelField cfg) s := if_pos hm
    rcases deliver_of_delivering hm (isLevelField cfg) s with ⟨hv, hd⟩ | ⟨_, hirr, hd⟩ | ⟨hv, hirr, hd⟩
    · exact hviolates (fun hr => hv hr.2) _ (hr.trans hd)
    · rw [hr, hd]
      exact ⟨rfl, .kept fun hr => absurd (hirr.symm.trans hr.2) (by decide)⟩
    · rw [hr, hd, checkVector_faulted, checkVector_lapic]
      exact ⟨rfl, .accepted ⟨hm, hv⟩ hirr⟩
  · exact hviolates (fun hr => hm hr.1) _ (if_neg hm)

theorem attempt_of_violating (hdiag : s.params.diagnostic = true) (h : ¬ Routable cfg) :
    attempt i cfg s = s.withFaulted (some (entryViolation cfg)) := by
  rw [attempt_eq_andThen_routeEntry, routeEntry_of_violating hdiag h]
  exact andThen_faulted rfl

theorem attempt_of_passing (hs : Running s) (h : s.params.diagnostic = false ∨ Routable cfg) :
    Running (attempt i cfg s) ∧
      (attempt i cfg s).ioapic = (setConfig i (clearDelivStatus (configOf s.ioapic i)) s).ioapic ∧
      LapicRouted cfg s.lapic (attempt i cfg s).lapic := by
  obtain ⟨hfaulted, hlapic⟩ := routeEntry_of_passing (i := i) h
  have hrun : Running (routeEntry i cfg s) := hfaulted.trans hs
  rw [attempt_eq_andThen_routeEntry, andThen_running hrun]
  refine ⟨hrun, ?_, hlapic⟩
  rw [setConfig_ioapic, setConfig_ioapic, routeEntry_ioapic]

end

/-! ## Releasing one entry (R163) -/

/-- A released entry with the word `cfg` and the pending bit `p` is attempted again at once (R160, R163). -/
def GoesAgain (v : Vec) (cfg : Word) (p : Bool) : Prop := Released v cfg ∧ p = true ∧ isMasked cfg = false

/-- `s` as the attempt of a released entry `k` finds it: a level entry has lost remote IRR and got it back, an edge entry
has lost remote IRR and its pending bit. -/
def rearmed (k : Line) (s : State) : State :=
  if isLevelField (configOf s.ioapic k) = true then s
  else setIoIrr (clearLine s.ioapic.irr k) (setConfig k (clearRemoteIrr (configOf s.ioapic k)) s)

theorem setConfig_setConfig (k : Line) (w w' : Word) (s : State) :
    setConfig k w (setConfig k w' s) = setConfig k w s := by
  simp only [setConfig, State.withIoapic, Vector.set_set]

theorem setConfig_configOf (k : Line) (s : State) : setConfig k (configOf s.ioapic k) s = s := by
  simp [setConfig, State.withIoapic, configOf]

theorem setRemoteIrr_clearRemoteIrr {w : Word} (h : remoteIrr w = true) : setRemoteIrr (clearRemoteIrr w) = w := by
  apply BitVec.eq_of_getLsbD_eq
  intro b hb
  rw [getLsbD_setRemoteIrr _ _ hb, getLsbD_clearRemoteIrr _ _ hb]
  by_cases h14 : b = 14
  · subst h14; exact h.symm
  · rw [decide_eq_false h14, Bool.false_or, Bool.not_false, Bool.true_and]

section
variable {v : Vec} {k : Line} {s : State}

theorem releaseEntry_of_not_released (h : ¬ Released v (configOf s.ioapic k)) : releaseEntry v k s = s := if_neg h

theorem releaseEntry_of_released (h : Released v (configOf s.ioapic k)) :
    releaseEntry v k s = checkIrq k (setConfig k (clearRemoteIrr (configOf s.ioapic k)) s) := if_pos h

theorem configOf_setConfig_same (k : Line) (w : Word) (s : State) : configOf (setConfig k w s).ioapic k = w := by
  rw [configOf_setConfig, if_pos rfl]

/-- R163: a released entry that is not pending, or masked. -/
theorem releaseEntry_of_not_goesAgain (h : Released v (configOf s.ioapic k))
    (hn : ¬ GoesAgain v (configOf s.ioapic k) (s.ioapic.irr.getLsbD k)) :
    releaseEntry v k s = setConfig k (clearRemoteIrr (configOf s.ioapic k)) s := by
  rw [releaseEntry_of_released h]
  rcases checkIrq_cases k (setConfig k (clearRemoteIrr (configOf s.ioapic k)) s) with
    ⟨_, hc⟩ | ⟨hpend, hmask, _⟩ | ⟨hpend, hmask, _⟩
  · exact hc
  all_goals
    rw [configOf_setConfig_same, isMasked_clearRemoteIrr] at hmask
    exact absurd ⟨h, hpend, hmask⟩ hn

/-- R163: a released entry that goes again. -/
theorem releaseEntry_of_goesAgain (h : GoesAgain v (configOf s.ioapic k) (s.ioapic.irr.getLsbD k)) :
    releaseEntry v k s = attempt k (clearRemoteIrr (configOf s.ioapic k)) (rearmed k s) := by
  obtain ⟨hrel, hpend, hmask⟩ := h
  rw [releaseEntry_of_released hrel]
  unfold rearmed
  rcases checkIrq_cases k (setConfig k (clearRemoteIrr (configOf s.ioapic k)) s) with
    ⟨hidle, _⟩ | ⟨_, _, hedge, hc⟩ | ⟨_, _, hlevel, _, hc⟩
  · rw [configOf_setConfig_same, isMasked_clearRemoteIrr, remoteIrr_clearRemoteIrr] at hidle
    rcases hidle with hidle | hidle | ⟨_, hidle⟩
    · exact absurd (hpend.symm.trans hidle) (by decide)
    · exact absurd (hmask.symm.trans hidle) (by decide)
    · exact absurd hidle (by decide)
  · rw [configOf_setConfig_same, isLevelField_clearRemoteIrr] at hedge
    rw [hc, configOf_setConfig_same, if_neg (Bool.eq_false_iff.1 hedge)]
    rfl
  · rw [configOf_setConfig_same, isLevelField_clearRemoteIrr] at hlevel
    rw [hc, configOf_setConfig_same, if_pos hlevel, setConfig_setConfig, setRemoteIrr_clearRemoteIrr hrel.2,
      setConfig_configOf]

end

/-! ## What the scan leaves of an entry and of the LAPIC -/

/-- The word and the pending bit that the scan leaves of an entry it found with `cfg` and `p`. -/
inductive EntryScanned (v : Vec) (cfg : Word) (p : Bool) : Word → Bool → Prop
  | stands (h : ¬ Released v cfg) : EntryScanned v cfg p cfg p
  | released (h : Released v cfg) (hn : ¬ GoesAgain v cfg p) : EntryScanned v cfg p (clearRemoteIrr cfg) p
  | level (h : GoesAgain v cfg p) (hlevel : isLevelField cfg = true) :
      EntryScanned v cfg p (clearDelivStatus cfg) true
  | edge (h : GoesAgain v cfg p) (hedge : isLevelField cfg = false) :
      EntryScanned v cfg p (clearDelivStatus (clearRemoteIrr cfg)) false

/-- Every entry but `k` stands. -/
def OthersStand (k : Line) (io io' : IoApic) : Prop :=
  ∀ j : Line, j ≠ k → configOf io' j = configOf io j ∧ io'.irr.getLsbD j = io.irr.getLsbD j

theorem OthersStand.refl (k : Line) (io : IoApic) : OthersStand k io io := fun _ _ => ⟨rfl, rfl⟩

theorem OthersStand.trans {k : Line} {a b c : IoApic} (h₁ : OthersStand k a b) (h₂ : OthersStand k b c) :
    OthersStand k a c :=
  fun j hj => ⟨(h₂ j hj).1.trans (h₁ j hj).1, (h₂ j hj).2.trans (h₁ j hj).2⟩

theorem othersStand_setConfig (k : Line) (w : Word) (s : State) :
    OthersStand k s.ioapic (setConfig k w s).ioapic :=
  fun j hj => ⟨by rw [configOf_setConfig, if_neg hj], rfl⟩

theorem othersStand_clearPending (k : Line) (s : State) :
    OthersStand k s.ioapic (setIoIrr (clearLine s.ioapic.irr k) s).ioapic := by
  refine fun j hj => ⟨rfl, ?_⟩
  show (clearLine s.ioapic.irr k).getLsbD j = _
  rw [getLsbD_clearLine, decide_eq_false hj, Bool.not_false, Bool.true_and]

section
variable {k : Line} {s : State}

theorem rearmed_of_level (h : isLevelField (configOf s.ioapic k) = true) : rearmed k s = s := if_pos h

theorem rearmed_of_edge (h : isLevelField (configOf s.ioapic k) = false) :
    rearmed k s = setIoIrr (clearLine s.ioapic.irr k) (setConfig k (clearRemoteIrr (configOf s.ioapic k)) s) :=
  if_neg (Bool.eq_false_iff.1 h)

theorem rearmed_edge_entry (h : isLevelField (configOf s.ioapic k) = false) :
    configOf (rearmed k s).ioapic k = clearRemoteIrr (configOf s.ioapic k) ∧
      (rearmed k s).ioapic.irr.getLsbD k = false := by
  rw [rearmed_of_edge h]
  refine ⟨configOf_setConfig_same k _ s, ?_⟩
  show (clearLine s.ioapic.irr k).getLsbD k = false
  rw [getLsbD_clearLine, decide_eq_true rfl, Bool.not_true, Bool.false_and]

/-- Rearming an entry touches the IOAPIC only, and of it that entry only. -/
theorem rearmed_frame (k : Line) (s : State) :
    OthersStand k s.ioapic (rearmed k s).ioapic ∧ (rearmed k s).lapic = s.lapic ∧
      (rearmed k s).faulted = s.faulted ∧ (rearmed k s).params = s.params := by
  cases h : isLevelField (configOf s.ioapic k) with
  | true => rw [rearmed_of_level h]; exact ⟨.refl _ _, rfl, rfl, rfl⟩
  | false =>
    rw [rearmed_of_edge h]
    exact ⟨(othersStand_setConfig k _ s).trans (othersStand_clearPending k (setConfig k _ s)), rfl, rfl, rfl⟩

end

/-- Entry `k` goes again by a mode that delivers, so that it routes `v` (R160). -/
def Routes (v : Vec) (io : IoApic) (k : Line) : Prop :=
  GoesAgain v (configOf io k) (io.irr.getLsbD k) ∧ DeliveringMode (modeField (configOf io k))

/-- The scan below entry `n` lets `v` enter IRR. -/
def Enters (v : Vec) (l : Lapic) (io : IoApic) (n : Nat) : Prop :=
  Deliverable v ∧ getBit l.irr v = false ∧ ∃ k : Line, k.val < n ∧ Routes v io k

/-- The LAPIC that the scan below entry `n` leaves: `v` is accepted from the lowest entry that routes it. -/
inductive LapicScanned (v : Vec) (l : Lapic) (io : IoApic) (n : Nat) : Lapic → Prop
  | kept (h : ¬ Enters v l io n) : LapicScanned v l io n l
  | accepted (k : Line) (h : Enters v l io n) (hk : Routes v io k) (hmin : ∀ j, Routes v io j → k ≤ j) :
      LapicScanned v l io n (acceptVector l v (isLevelField (configOf io k)))

/-- The LAPIC after the release of entry `k` that found it as `l`: `v` is accepted if the entry routes it, it may be
delivered and it is not pending. -/
inductive LapicReleased (v : Vec) (io : IoApic) (k : Line) (l : Lapic) : Lapic → Prop
  | kept (h : ¬ (Deliverable v ∧ getBit l.irr v = false ∧ Routes v io k)) : LapicReleased v io k l l
  | accepted (hv : Deliverable v) (hirr : getBit l.irr v = false) (hr : Routes v io k) :
      LapicReleased v io k l (acceptVector l v (isLevelField (configOf io k)))

/-- What releasing entry `k` leaves where it does not fault the block. -/
structure EntryReleased (v : Vec) (k : Line) (s t : State) : Prop where
  running : Running t
  entry : EntryScanned v (configOf s.ioapic k) (s.ioapic.irr.getLsbD k) (configOf t.ioapic k) (t.ioapic.irr.getLsbD k)
  others : OthersStand k s.ioapic t.ioapic
  lapic : LapicReleased v s.ioapic k s.lapic t.lapic

/-- The scan does not end at entry `k`: the block is in production, or the entry does not violate. -/
def Passes (v : Vec) (s : State) (k : Line) : Prop :=
  s.params.diagnostic = false ∨
    (GoesAgain v (configOf s.ioapic k) (s.ioapic.irr.getLsbD k) →
      DeliveringMode (modeField (configOf s.ioapic k)) ∧ Deliverable v)

section
variable {v : Vec} {k : Line} {s : State}

/-- The words that differ in remote IRR only are routable alike, and a released entry routes `v`. -/
theorem routable_clearRemoteIrr {cfg : Word} (h : Released v cfg) :
    Routable (clearRemoteIrr cfg) ↔ DeliveringMode (modeField cfg) ∧ Deliverable v := by
  rw [Routable, modeField_clearRemoteIrr, vectorField_clearRemoteIrr, h.1]

/-- What the attempt of a released entry does to the LAPIC, said of `v`. -/
theorem LapicRouted.of_goesAgain {l : Lapic} (h : GoesAgain v (configOf s.ioapic k) (s.ioapic.irr.getLsbD k))
    (hl : LapicRouted (clearRemoteIrr (configOf s.ioapic k)) s.lapic l) :
    LapicReleased v s.ioapic k s.lapic l := by
  have hvec : vectorField (clearRemoteIrr (configOf s.ioapic k)) = v := (vectorField_clearRemoteIrr _).trans h.1.1
  cases hl with
  | kept hn =>
    rw [routable_clearRemoteIrr h.1, hvec] at hn
    exact .kept fun ⟨hv, hirr, hr⟩ => hn ⟨⟨hr.2, hv⟩, hirr⟩
  | accepted hr hirr =>
    rw [hvec] at hirr ⊢
    obtain ⟨hm, hv⟩ := (routable_clearRemoteIrr h.1).1 hr
    rw [isLevelField_clearRemoteIrr]
    exact .accepted hv hirr ⟨h, hm⟩

/-- R160, R163: the entry after the attempt. -/
theorem entryScanned_of_goesAgain (h : GoesAgain v (configOf s.ioapic k) (s.ioapic.irr.getLsbD k)) :
    EntryScanned v (configOf s.ioapic k) (s.ioapic.irr.getLsbD k)
      (clearDelivStatus (configOf (rearmed k s).ioapic k)) ((rearmed k s).ioapic.irr.getLsbD k) := by
  cases hl : isLevelField (configOf s.ioapic k) with
  | true =>
    rw [rearmed_of_level hl]
    have hlevel := EntryScanned.level h hl
    rwa [← h.2.1] at hlevel
  | false =>
    obtain ⟨hcfg, hirr⟩ := rearmed_edge_entry hl
    rw [hcfg, hirr]
    exact .edge h hl

theorem releaseEntry_of_passes (hs : Running s) (hpass : Passes v s k) : EntryReleased v k s (releaseEntry v k s) := by
  by_cases hrel : Released v (configOf s.ioapic k)
  · by_cases hgo : GoesAgain v (configOf s.ioapic k) (s.ioapic.irr.getLsbD k)
    · obtain ⟨hothers, hlapic, hfaulted, hparams⟩ := rearmed_frame k s
      have hpass' : (rearmed k s).params.diagnostic = false ∨ Routable (clearRemoteIrr (configOf s.ioapic k)) := by
        rw [hparams]
        exact hpass.imp_right fun h => (routable_clearRemoteIrr hrel).2 (h hgo)
      obtain ⟨hrun, hio, hrouted⟩ := attempt_of_passing (i := k) (hfaulted.trans hs) hpass'
      rw [hlapic] at hrouted
      rw [releaseEntry_of_goesAgain hgo]
      refine ⟨hrun, ?_, ?_, hrouted.of_goesAgain hgo⟩
      · rw [hio, configOf_setConfig_same]
        exact entryScanned_of_goesAgain hgo
      · rw [hio]
        exact hothers.trans (othersStand_setConfig k _ (rearmed k s))
    · rw [releaseEntry_of_not_goesAgain hrel hgo]
      refine ⟨hs, ?_, othersStand_setConfig k _ s, .kept fun ⟨_, _, hr⟩ => hgo hr.1⟩
      rw [configOf_setConfig_same]
      exact .released hrel hgo
  · rw [releaseEntry_of_not_released hrel]
    exact ⟨hs, .stands hrel, .refl _ _, .kept fun ⟨_, _, hr⟩ => hrel hr.1.1⟩

/-- R182, R191: a violating entry ends the scan with what was done before the violation. -/
theorem releaseEntry_of_violating (hdiag : s.params.diagnostic = true)
    (hgo : GoesAgain v (configOf s.ioapic k) (s.ioapic.irr.getLsbD k))
    (hbad : ¬ (DeliveringMode (modeField (configOf s.ioapic k)) ∧ Deliverable v)) :
    releaseEntry v k s = (rearmed k s).withFaulted (some (entryViolation (configOf s.ioapic k))) := by
  obtain ⟨_, _, _, hparams⟩ := rearmed_frame k s
  have hdiag' : (rearmed k s).params.diagnostic = true := by rw [hparams, hdiag]
  rw [releaseEntry_of_goesAgain hgo, attempt_of_violating hdiag' (mt (routable_clearRemoteIrr hgo.1).1 hbad),
    entryViolation, modeField_clearRemoteIrr]
  rfl

end

/-! ## The scan, entry by entry -/

/-- The scan of the entries below `n`. -/
def scanBelow (v : Vec) (s : State) (n : Nat) : State :=
  ((List.finRange 24).take n).foldl (fun t k => andThen t (releaseEntry v k)) s

theorem scanBelow_succ (v : Vec) (s : State) (k : Line) :
    scanBelow v s (k.val + 1) = andThen (scanBelow v s k.val) (releaseEntry v k) := by
  have hlen : k.val < (List.finRange 24).length := by rw [List.length_finRange]; exact k.isLt
  have hget : (List.finRange 24)[k.val] = k := by rw [List.getElem_finRange]; rfl
  rw [scanBelow, List.take_add_one, List.getElem?_eq_getElem hlen, hget, List.foldl_append]
  rfl

theorem scanBelow_all (v : Vec) (s : State) : scanBelow v s 24 = remoteEoi v s := by
  rw [scanBelow, List.take_of_length_le (by rw [List.length_finRange])]
  rfl

/-- R182: a violation that faulted the block ends the scan. -/
theorem scanBelow_of_faulted {v : Vec} {s : State} {n : Nat} {c : Violation} (h : (scanBelow v s n).faulted = some c)
    {m : Nat} (hnm : n ≤ m) (hm : m ≤ 24) : scanBelow v s m = scanBelow v s n := by
  induction m, hnm using Nat.le_induction with
  | base => rfl
  | succ m _ ih =>
    have hprev := ih (by omega)
    rw [scanBelow_succ v s ⟨m, hm⟩, hprev, andThen_faulted h]

/-- What the scan of the entries below `n` leaves where it does not fault the block. -/
structure Scanned (v : Vec) (s : State) (n : Nat) (t : State) : Prop where
  running : Running t
  params : t.params = s.params
  below : ∀ k : Line, k.val < n → EntryScanned v (configOf s.ioapic k) (s.ioapic.irr.getLsbD k)
    (configOf t.ioapic k) (t.ioapic.irr.getLsbD k)
  above : ∀ k : Line, n ≤ k.val → configOf t.ioapic k = configOf s.ioapic k ∧
    t.ioapic.irr.getLsbD k = s.ioapic.irr.getLsbD k
  lapic : LapicScanned v s.lapic s.ioapic n t.lapic

theorem Scanned.refl {v : Vec} {s : State} (hs : Running s) : Scanned v s 0 s :=
  ⟨hs, rfl, fun _ h => absurd h (Nat.not_lt_zero _), fun _ _ => ⟨rfl, rfl⟩,
    .kept fun ⟨_, _, _, h, _⟩ => absurd h (Nat.not_lt_zero _)⟩

/-- Of the IOAPIC, the release of entry `k` reads that entry only. -/
theorem LapicReleased.congr {v : Vec} {io io' : IoApic} {k : Line} {l l' : Lapic} (h : LapicReleased v io k l l')
    (hcfg : configOf io k = configOf io' k) (hirr : io.irr.getLsbD k = io'.irr.getLsbD k) :
    LapicReleased v io' k l l' := by
  have hroutes : Routes v io k = Routes v io' k := by unfold Routes; rw [hcfg, hirr]
  cases h with
  | kept hn => exact .kept (hroutes ▸ hn)
  | accepted hv hclear hr => rw [hcfg]; exact .accepted hv hclear (hroutes ▸ hr)

/-- An accepted vector is pending, so a later entry that routes it is coalesced. -/
theorem LapicScanned.step {v : Vec} {l l' l'' : Lapic} {io : IoApic} {k : Line} (h : LapicScanned v l io k.val l')
    (hk : LapicReleased v io k l' l'') : LapicScanned v l io (k.val + 1) l'' := by
  cases h with
  | kept hn =>
    cases hk with
    | kept hk =>
      refine .kept fun ⟨hv, hirr, j, hj, hr⟩ => ?_
      rcases Nat.lt_succ_iff_lt_or_eq.1 hj with hlt | heq
      · exact hn ⟨hv, hirr, j, hlt, hr⟩
      · exact hk ⟨hv, hirr, Fin.ext heq ▸ hr⟩
    | accepted hv hirr hr =>
      exact .accepted k ⟨hv, hirr, k, Nat.lt_succ_self _, hr⟩ hr fun j hj =>
        not_lt.1 fun hlt => hn ⟨hv, hirr, j, hlt, hj⟩
  | accepted j he hj hmin =>
    obtain ⟨hv, hirr, m, hm, hr⟩ := he
    cases hk with
    | kept => exact .accepted j ⟨hv, hirr, m, Nat.lt_succ_of_lt hm, hr⟩ hj hmin
    | accepted _ hclear => simp [acceptVector] at hclear

theorem Scanned.step {v : Vec} {s t : State} {k : Line} (h : Scanned v s k.val t) (hpass : Passes v s k) :
    Scanned v s (k.val + 1) (releaseEntry v k t) := by
  obtain ⟨hcfg, hirr⟩ := h.above k (Nat.le_refl _)
  have hpass' : Passes v t k := by unfold Passes; rw [h.params, hcfg, hirr]; exact hpass
  obtain ⟨hrun, hentry, hothers, hlapic⟩ := releaseEntry_of_passes h.running hpass'
  rw [hcfg, hirr] at hentry
  refine ⟨hrun, (releaseEntry_step v k t).1.params.trans h.params, fun j hj => ?_, fun j hj => ?_,
    h.lapic.step (hlapic.congr hcfg hirr)⟩
  · by_cases hjk : j = k
    · subst hjk; exact hentry
    · rw [(hothers j hjk).1, (hothers j hjk).2]
      exact h.below j (by have := Fin.val_ne_of_ne hjk; omega)
  · have hjk : j ≠ k := fun he => by rw [he] at hj; omega
    obtain ⟨hcfg', hirr'⟩ := h.above j (by omega)
    exact ⟨(hothers j hjk).1.trans hcfg', (hothers j hjk).2.trans hirr'⟩

/-- The induction over the entries: where none below `n` ends the scan. -/
theorem scanned_scanBelow {v : Vec} {s : State} (hs : Running s) {n : Nat} (hn : n ≤ 24)
    (hpass : ∀ k : Line, k.val < n → Passes v s k) : Scanned v s n (scanBelow v s n) := by
  induction n with
  | zero => exact .refl hs
  | succ n ih =>
    have hscanned := ih (by omega) fun k hk => hpass k (Nat.lt_succ_of_lt hk)
    rw [scanBelow_succ v s ⟨n, hn⟩, andThen_running hscanned.running]
    exact Scanned.step (k := ⟨n, hn⟩) hscanned (hpass ⟨n, hn⟩ (Nat.lt_succ_self n))

/-! ## What the scan leaves, clause by clause -/

section
variable {v : Vec} {cfg w : Word} {p q : Bool}

theorem EntryScanned.of_not_released (h : EntryScanned v cfg p w q) (hn : ¬ Released v cfg) : w = cfg ∧ q = p := by
  cases h with
  | stands => exact ⟨rfl, rfl⟩
  | released hrel => exact absurd hrel hn
  | level hgo | edge hgo => exact absurd hgo.1 hn

theorem EntryScanned.of_released (h : EntryScanned v cfg p w q) (hrel : Released v cfg) (hn : ¬ GoesAgain v cfg p) :
    w = clearRemoteIrr cfg ∧ q = p := by
  cases h with
  | stands hnot => exact absurd hrel hnot
  | released => exact ⟨rfl, rfl⟩
  | level hgo | edge hgo => exact absurd hgo hn

theorem EntryScanned.of_level (h : EntryScanned v cfg p w q) (hgo : GoesAgain v cfg p)
    (hlevel : isLevelField cfg = true) : w = clearDelivStatus cfg ∧ q = true := by
  cases h with
  | stands hnot => exact absurd hgo.1 hnot
  | released _ hn => exact absurd hgo hn
  | level => exact ⟨rfl, rfl⟩
  | edge _ hedge => exact absurd (hlevel.symm.trans hedge) (by decide)

/-- An edge entry that went again has lost delivery status and remote IRR. -/
theorem EntryScanned.of_edge (h : EntryScanned v cfg p w q) (hgo : GoesAgain v cfg p)
    (hedge : isLevelField cfg = false) : w = cfg &&& 0xFFFFAFFF#32 ∧ q = false := by
  cases h with
  | stands hnot => exact absurd hgo.1 hnot
  | released _ hn => exact absurd hgo hn
  | level _ hlevel => exact absurd (hlevel.symm.trans hedge) (by decide)
  | edge => exact ⟨BitVec.and_assoc _ _ _, rfl⟩

end

section
variable {v : Vec} {l l' : Lapic} {io : IoApic} {n : Nat}

/-- Of IRR the scan sets the bit of `v`, where a scanned entry routes it. -/
theorem LapicScanned.getBit_irr_iff (h : LapicScanned v l io n l') (u : Vec) :
    getBit l'.irr u = true ↔
      getBit l.irr u = true ∨ (u = v ∧ Deliverable v ∧ ∃ k : Line, k.val < n ∧ Routes v io k) := by
  cases h with
  | kept hn =>
    refine ⟨.inl, fun h => h.elim id fun ⟨hu, hv, hr⟩ => ?_⟩
    rw [hu, ← Bool.not_eq_false]
    exact fun hirr => hn ⟨hv, hirr, hr⟩
  | accepted k he =>
    obtain ⟨hv, _, hr⟩ := he
    show getBit (setBit l.irr v) u = true ↔ _
    rw [getBit_setBit, Bool.or_eq_true, decide_eq_true_eq]
    exact ⟨fun h => h.elim (fun hu => .inr ⟨hu, hv, hr⟩) .inl, fun h => h.elim .inr fun h => .inl h.1⟩

/-- The trigger mode of another vector stands, and that of `v` too where it does not enter IRR. -/
theorem LapicScanned.getBit_tmr_of_kept (h : LapicScanned v l io n l') {u : Vec} (hu : u ≠ v ∨ ¬ Enters v l io n) :
    getBit l'.tmr u = getBit l.tmr u := by
  cases h with
  | kept => rfl
  | accepted k he =>
    have hne : u ≠ v := hu.resolve_right (not_not.2 he)
    show getBit (if isLevelField (configOf io k) then setBit l.tmr v else clearBit l.tmr v) u = _
    split <;> simp [hne]

/-- Where `v` enters IRR its trigger mode is that of the lowest entry that routes it. -/
theorem LapicScanned.getBit_tmr_of_enters (h : LapicScanned v l io n l') (he : Enters v l io n) {k : Line}
    (hk : Routes v io k) (hmin : ∀ j, Routes v io j → k ≤ j) : getBit l'.tmr v = isLevelField (configOf io k) := by
  cases h with
  | kept hn => exact absurd he hn
  | accepted j _ hj hminj =>
    obtain rfl : j = k := le_antisymm (hminj k hk) (hmin j hj)
    show getBit (if isLevelField (configOf io j) then setBit l.tmr v else clearBit l.tmr v) v = _
    cases isLevelField (configOf io j) <;> simp

end

/-! ## REMOTE_EOI -/

/-- R163: REMOTE_EOI changes no field but these, and returns nothing. -/
theorem remoteEoi_clearOut_frame (v : Vec) (s : State) :
    remoteEoi v (clearOut s) =
      { s with
        lapic := { s.lapic with
          irr := (remoteEoi v (clearOut s)).lapic.irr, tmr := (remoteEoi v (clearOut s)).lapic.tmr }
        ioapic := { s.ioapic with
          cfg := (remoteEoi v (clearOut s)).ioapic.cfg, irr := (remoteEoi v (clearOut s)).ioapic.irr }
        faulted := (remoteEoi v (clearOut s)).faulted
        out := { response := .none, events := (remoteEoi v (clearOut s)).out.events } } := by
  obtain ⟨hdelivery, hscan⟩ := remoteEoi_step v (clearOut s)
  generalize remoteEoi v (clearOut s) = t at hdelivery hscan
  obtain ⟨_, ⟨_, _, _, _, _, _⟩, _, _, _, _, ⟨_, _⟩⟩ := t
  obtain ⟨hsel, hid, hdest, hirq, _, _, _⟩ := hscan
  obtain ⟨hlapic, hparams, hdraws, hpending, hresponse, _, _, _, _, _, _⟩ := hdelivery
  cases hsel; cases hid; cases hdest; cases hirq; cases hparams; cases hdraws; cases hpending; cases hresponse
  exact congrArg (fun l => State.mk l _ _ _ _ _ _) hlapic

/-- R163: an entry that is not released stands, whatever ends the scan. -/
theorem ScanStep.stands {p : Word → Prop} {io io' : IoApic} (h : ScanStep p io io') {k : Line}
    (hk : ¬ p (configOf io k)) : configOf io' k = configOf io k ∧ io'.irr.getLsbD k = io.irr.getLsbD k :=
  ⟨h.keeps k hk, (h.irr k).resolve_right fun hirr => hk hirr.2.1⟩

/-- R163: where no entry ends the scan, it reaches all 24. -/
theorem scanned_remoteEoi {v : Vec} {s : State} (hs : Running s) (hpass : ∀ k, Passes v s k) :
    Scanned v s 24 (remoteEoi v s) := by
  rw [← scanBelow_all]
  exact scanned_scanBelow hs (Nat.le_refl _) fun k _ => hpass k

/-- R182, R191: under `DIAGNOSTIC` the scan ends at the first entry that violates. -/
theorem remoteEoi_of_violating {v : Vec} {s : State} {n : Line} (hs : Running s) (hdiag : s.params.diagnostic = true)
    (hbelow : ∀ k : Line, k.val < n.val → Passes v s k)
    (hgo : GoesAgain v (configOf s.ioapic n) (s.ioapic.irr.getLsbD n))
    (hbad : ¬ (DeliveringMode (modeField (configOf s.ioapic n)) ∧ Deliverable v)) :
    ∃ t, Scanned v s n t ∧
      remoteEoi v s = (rearmed n t).withFaulted (some (entryViolation (configOf s.ioapic n))) := by
  have hscanned := scanned_scanBelow hs (Nat.le_of_lt n.isLt) hbelow
  refine ⟨_, hscanned, ?_⟩
  obtain ⟨hcfg, hirr⟩ := hscanned.above n (Nat.le_refl _)
  have hend : scanBelow v s (n.val + 1) =
      (rearmed n (scanBelow v s n)).withFaulted (some (entryViolation (configOf s.ioapic n))) := by
    rw [scanBelow_succ, andThen_running hscanned.running, ← hcfg]
    rw [← hcfg, ← hirr] at hgo
    rw [← hcfg] at hbad
    exact releaseEntry_of_violating (by rw [hscanned.params, hdiag]) hgo hbad
  have hfaulted : (scanBelow v s (n.val + 1)).faulted = some (entryViolation (configOf s.ioapic n)) := by rw [hend]; rfl
  rw [← scanBelow_all, scanBelow_of_faulted hfaulted n.isLt (Nat.le_refl _), hend]

/-- Settles O47: the frame and the entries that are not hit are those of any scan; the rest is the whole scan's, where no
entry ends it. -/
theorem remoteEoiReleasesEveryMatchingEntry : Obligations.RemoteEoiReleasesEveryMatchingEntry := by
  intro s hs v cfg Hit Again Routing
  refine ⟨spells_bare 10#4 (by decide) fun _ ht => decode_descriptor ht, remoteEoi v (clearOut s),
    exec_ordinary_running (i := .remoteEoi v) trivial hs, remoteEoi_clearOut_frame v s,
    fun k hk => (remoteEoi_step v (clearOut s)).2.stands hk, fun hpass => ?_⟩
  have hscanned : Scanned v (clearOut s) 24 (remoteEoi v (clearOut s)) :=
    scanned_remoteEoi hs fun k => hpass.imp_right fun h => h k
  have hentry (k : Line) := hscanned.below k k.isLt
  refine ⟨hscanned.running, fun k hk hn => (hentry k).of_released hk hn,
    fun k hk hlevel => (hentry k).of_level hk hlevel, fun k hk hedge => (hentry k).of_edge hk hedge,
    fun u => ?_, fun u hu => hscanned.lapic.getBit_tmr_of_kept ?_, fun k hk hmin hirr hv => ?_⟩
  · have hall : (∃ k : Line, k.val < 24 ∧ Routes v s.ioapic k) ↔ ∃ k, Routing k :=
      exists_congr fun k => and_iff_right k.isLt
    rw [← hall]
    exact hscanned.lapic.getBit_irr_iff u
  · refine hu.imp_right fun h ⟨hv, hirr, k, _, hr⟩ => ?_
    rcases h with h | h | h
    · exact absurd (h.symm.trans hirr) (by decide)
    · exact h hv
    · exact h k hr
  · exact hscanned.lapic.getBit_tmr_of_enters ⟨hv, hirr, k, k.isLt, hk⟩ hk hmin

/-- Settles O48: below `n` the scan has run as in O47, entry `n` is as it was rearmed, and above it nothing ran. -/
theorem remoteEoiScanEndsAtTheFirstViolation : Obligations.RemoteEoiScanEndsAtTheFirstViolation := by
  intro s hs hdiag v n cfg Hit Again hgo hbelow hbad
  obtain ⟨t, hscanned, ht⟩ := remoteEoi_of_violating (s := clearOut s) hs hdiag
    (fun k hk => .inr fun h => hbelow k hk h) hgo hbad
  obtain ⟨hothers, hlapic, _, _⟩ := rearmed_frame n t
  obtain ⟨hcfg, hirr⟩ := hscanned.above n (Nat.le_refl _)
  have hentry (k : Line) (hk : k < n) := by
    have h := hscanned.below k hk
    rwa [← (hothers k (ne_of_lt hk)).1, ← (hothers k (ne_of_lt hk)).2] at h
  have hl := hscanned.lapic
  rw [← hlapic] at hl
  refine ⟨_, exec_ordinary_running (i := .remoteEoi v) trivial hs, ?_⟩
  rw [body, ht]
  refine ⟨rfl, fun k hk => ?_, fun hlevel => ?_, fun hedge => ?_,
    fun k hk hn => (hentry k hk).of_not_released hn, fun k hk hrel hn => (hentry k hk).of_released hrel hn,
    fun k hk h hlevel => (hentry k hk).of_level h hlevel, fun k hk h hedge => (hentry k hk).of_edge h hedge,
    fun u => ?_, fun u hu => hl.getBit_tmr_of_kept ?_, fun k hk h hmin hclear => ?_⟩
  · obtain ⟨hcfgk, hirrk⟩ := hscanned.above k (Nat.le_of_lt hk)
    exact ⟨(hothers k (ne_of_gt hk)).1.trans hcfgk, (hothers k (ne_of_gt hk)).2.trans hirrk⟩
  · rw [rearmed_of_level (by rw [hcfg]; exact hlevel)]
    exact ⟨hcfg, hirr.trans hgo.2.1⟩
  · obtain ⟨hcfgn, hirrn⟩ := rearmed_edge_entry (k := n) (s := t) (by rw [hcfg]; exact hedge)
    exact ⟨by rw [hcfg] at hcfgn; exact hcfgn, hirrn⟩
  · refine (hl.getBit_irr_iff u).trans (or_congr_right (and_congr_right fun _ => ?_))
    exact ⟨fun ⟨_, k, hk, hr⟩ => ⟨k, hk, hr.1⟩,
      fun ⟨k, hk, h⟩ => ⟨(hbelow k hk h).2, k, hk, h, (hbelow k hk h).1⟩⟩
  · refine hu.imp_right fun h ⟨_, hclear, k, hk, hr⟩ => ?_
    rcases h with h | h
    · exact absurd (h.symm.trans hclear) (by decide)
    · exact h k hk hr.1
  · obtain ⟨hm, hv⟩ := hbelow k hk h
    exact hl.getBit_tmr_of_enters ⟨hv, hclear, k, hk, h, hm⟩ ⟨h, hm⟩ fun j hj => hmin j hj.1

end Sys2Proof.Machine

/-! # Family 45_host_interface: SNAPSHOT and RESTORE

SNAPSHOT answers with the record of both units and changes neither (R175). RESTORE installs any well-formed record in any
state and refuses every other (R176). So what a snapshot returned can be restored into any block, a freshly reset one
included (R180). -/

namespace Sys2Proof.Machine

open Sys2Proof.Safety

/-! ## RESTORE (R176) -/

theorem restoreState_eq_quiet (r : Record) (s : State) :
    restoreState r s = quiet { s with lapic := r.lapic, ioapic := r.ioapic, faulted := none } := rfl

/-- R176: in any state, FAULTED included. -/
theorem exec_restore_of_wellFormed {r : Record} (hr : r.WellFormed) (s : State) :
    exec (.restore r) s = .next (restoreState r s) :=
  exec_restore_eq_next_iff.2 ⟨hr, rfl⟩

theorem exec_restore_of_not_wellFormed {r : Record} (hr : ¬ r.WellFormed) (s : State) :
    exec (.restore r) s = .refused .illFormedRestore :=
  if_neg hr

/-- Settles O57: the record's form alone decides between the two outcomes. -/
theorem restoreInstallsAWellFormedRecord : Obligations.RestoreInstallsAWellFormedRecord := by
  refine fun s r => ⟨spells_bare 7#4 (by decide) fun _ ht => decode_descriptor ht, fun hr => ?_,
    fun hr => exec_restore_of_not_wellFormed hr s⟩
  rw [exec_restore_of_wellFormed hr, restoreState_eq_quiet]

/-! ## SNAPSHOT (R175) -/

theorem exec_snapshot {s : State} (hs : Running s) :
    exec .snapshot s = .next (answered s (.record (snapshotOf s)) []) :=
  exec_ordinary_running (i := .snapshot) trivial hs

/-- Settles O58. -/
theorem snapshotReturnsTheRecord : Obligations.SnapshotReturnsTheRecord :=
  fun _ hs => ⟨spells_bare 8#4 (by decide) fun _ ht => decode_descriptor ht, exec_snapshot hs⟩

/-- R175: a SNAPSHOT that completes returns the record of the state it started from, and no other. -/
theorem eq_snapshotOf_of_exec_snapshot {s t : State} {r : Record} (hx : exec .snapshot s = .next t)
    (hr : t.out.response = .record r) : r = snapshotOf s := by
  obtain ⟨_, rfl⟩ := exec_ordinary_next (i := .snapshot) trivial hx
  exact (Response.record.inj hr).symm

/-! ## The round trip (R180) -/

/-- Settles O59: the record a snapshot returned is that of a well-formed state, so RESTORE installs it; the units that the
RESET left do not matter. -/
theorem snapshotThenRestoreRoundTrips : Obligations.SnapshotThenRestoreRoundTrips := by
  intro s t _ u r _ hs hsnapshot hr _
  obtain rfl := eq_snapshotOf_of_exec_snapshot hsnapshot hr
  exact ⟨restoreState (snapshotOf s) u, exec_restore_of_wellFormed hs u, restoreState_lapic _ u,
    restoreState_ioapic _ u, restoreState_faulted _ u, by rw [restoreState_out]; rfl⟩

end Sys2Proof.Machine

/-! # Family 70_reset_and_hazards: RESET and the first reads after it

RESET writes every field of both units in any state (R201). So the state it leaves is a running block whose registers
are known, and the read rules of the LAPIC (R98), of IOREGSEL (R148) and of IOWIN (R150) give the table of R202. -/

namespace Sys2Proof.Machine

open Sys2Proof.Safety

/-! ## RESET (R201) -/

theorem exec_reset (now : Nat) (s : State) : exec (.reset now) s = .next (resetState now s) := rfl

/-- Settles O54: the state of the statement is `resetState`, whose fields R201 lists. -/
theorem resetWritesEveryField : Obligations.ResetWritesEveryField := by
  intro s now t
  have ht : t = resetState now s := rfl
  rw [ht]
  exact ⟨spells_bare 6#4 (by decide) fun _ hdesc => decode_descriptor hdesc, exec_reset now s,
    intr_resetState now s⟩

/-! ## The registers of a reset block (R202) -/

@[simp] theorem wordOf_zero (j : BitVec 3) : wordOf 0#256 j = 0#32 :=
  BitVec.extractLsb'_zero

/-- R40: every entry is masked, all else zero. -/
@[simp] theorem configOf_ioapicReset (k : Line) : configOf ioapicReset k = maskedEntry :=
  Vector.getElem_replicate k.isLt

@[simp] theorem destOf_ioapicReset (k : Line) : destOf ioapicReset k = 0#32 :=
  Vector.getElem_replicate k.isLt

/-! ## IOREGSEL after a RESET (R148, R149) -/

theorem exec_r32Ioregsel {s : State} (hs : Running s) :
    exec .r32Ioregsel s = .next (answered s (.data32 (s.ioapic.ioregsel.zeroExtend 32)) []) :=
  exec_ordinary_running (i := .r32Ioregsel) trivial hs

/-- The IOAPIC right after a RESET and a write of `d` to IOREGSEL. -/
def ioapicResetSelecting (d : Word) : IoApic := { ioapicReset with ioregsel := lowByte d }

theorem configOf_ioapicResetSelecting (d : Word) (k : Line) : configOf (ioapicResetSelecting d) k = maskedEntry :=
  configOf_ioapicReset k

theorem destOf_ioapicResetSelecting (d : Word) (k : Line) : destOf (ioapicResetSelecting d) k = 0#32 :=
  destOf_ioapicReset k

/-- R149: an index that fits its 8 bits is stored as it is. -/
theorem ioregsel_ioapicResetSelecting {d : Word} (hd : d.toNat < 2 ^ 8) :
    (ioapicResetSelecting d).ioregsel.toNat = d.toNat := by
  show (d.extractLsb' 0 8).toNat = d.toNat
  rw [BitVec.extractLsb'_toNat, Nat.shiftRight_zero, Nat.mod_eq_of_lt hd]

/-- R149, R201: after a RESET the write to IOREGSEL completes, and changes the index only. -/
theorem exec_w32Ioregsel_resetState {d : Word} {now : Nat} {s u : State}
    (hx : exec (.w32Ioregsel d) (resetState now s) = .next u) :
    Running u ∧ u.params = s.params ∧ u.ioapic = ioapicResetSelecting d := by
  obtain ⟨_, rfl⟩ := exec_ordinary_next (i := .w32Ioregsel d) trivial hx
  exact ⟨resetState_faulted now s, resetState_params now s, rfl⟩

/-! ## The table of R202 -/

/-- R98: after a RESET, the read of a register that has a value answers with it. -/
theorem exec_lapicReadOf_resetState (now : Nat) (s : State) (r : LapicReg) {w : Word}
    (hw : lapicValue (resetState now s) r = some w) :
    exec (lapicReadOf r) (resetState now s) = .next (answered (resetState now s) (.data32 w) []) :=
  exec_lapicReadOf_of_value (resetState_faulted now s) hw

/-- R110 to R112: no vector is in service or requests service, and no trigger mode is level. -/
theorem exec_wordReads_resetState (now : Nat) (s : State) (j : BitVec 3) :
    ∀ i ∈ [Instr.r32LapicIsr j, .r32LapicTmr j, .r32LapicIrr j],
      exec i (resetState now s) = .next (answered (resetState now s) (.data32 0#32) []) := by
  have hzero : some (wordOf 0#256 j) = some 0#32 := congrArg some (wordOf_zero j)
  simp only [List.forall_mem_cons, List.not_mem_nil, false_implies, implies_true, and_true]
  exact ⟨exec_lapicReadOf_resetState now s (.isr j) hzero, exec_lapicReadOf_resetState now s (.tmr j) hzero,
    exec_lapicReadOf_resetState now s (.irr j) hzero⟩

section
variable {u : State} {d : Word}

/-- R152, R154, R155: the IOWIN reads of the ID, the version and the arbitration ID. -/
theorem exec_r32Iowin_resetIdentity (hu : Running u) (hio : u.ioapic = ioapicResetSelecting d) :
    (d = 0x00#32 → exec .r32Iowin u = .next (answered u (.data32 0#32) [])) ∧
    (d = 0x01#32 → exec .r32Iowin u = .next (answered u (.data32 u.params.ioapicVersion) [])) ∧
    (d = 0x02#32 → exec .r32Iowin u = .next (answered u (.data32 0#32) [])) := by
  obtain ⟨_, hid, hversion, harbitration, _, _⟩ := iowinReadsReturnTheSelectedRegister u hu
  rw [hio] at hid hversion harbitration
  refine ⟨?_, ?_, ?_⟩ <;> rintro rfl
  · exact hid rfl _ (List.mem_cons_self ..)
  · exact hversion rfl _ (List.mem_cons_self ..)
  · exact harbitration rfl _ (List.mem_cons_self ..)

/-- R157: the IOWIN reads of the redirection entries. -/
theorem exec_r32Iowin_resetRedirection (hu : Running u) (hio : u.ioapic = ioapicResetSelecting d) (k : Line) :
    (d.toNat = 0x10 + 2 * k.val → exec .r32Iowin u = .next (answered u (.data32 maskedEntry) [])) ∧
    (d.toNat = 0x11 + 2 * k.val → exec .r32Iowin u = .next (answered u (.data32 0#32) [])) := by
  obtain ⟨_, _, _, _, hconfig, hdest⟩ := iowinReadsReturnTheSelectedRegister u hu
  simp only [hio, configOf_ioapicResetSelecting, destOf_ioapicResetSelecting] at hconfig hdest
  have hindex {n : Nat} (hn : n ≤ 0x11) (hd : d.toNat = n + 2 * k.val) :
      (ioapicResetSelecting d).ioregsel.toNat = n + 2 * k.val :=
    (ioregsel_ioapicResetSelecting (by omega)).trans hd
  exact ⟨fun hd => hconfig k (hindex (by decide) hd) _ (List.mem_cons_self ..),
    fun hd => hdest k (hindex (by decide) hd) _ (List.mem_cons_self ..)⟩

end

/-- Settles O55: the registers with a value of their own, the words of ISR, TMR and IRR, and what IOWIN reaches. -/
theorem readsRightAfterReset : Obligations.ReadsRightAfterReset := by
  intro s t now hx
  obtain rfl : resetState now s = t := Host.Outcome.next.inj hx
  have hread := exec_lapicReadOf_resetState now s
  refine ⟨?_, exec_wordReads_resetState now s, fun d u hselect => ?_⟩
  · simp only [List.forall_mem_cons, List.not_mem_nil, false_implies, implies_true, and_true]
    exact ⟨hread .id rfl, hread .version rfl, hread .tpr rfl, hread .ldr rfl, hread .dfr rfl, hread .svr rfl,
      hread .error rfl, hread .icrLow rfl, hread .icrHigh rfl, hread .lvtTimer rfl, hread .lvtPerf rfl,
      hread .lvtInt0 rfl, hread .lvtInt1 rfl, hread .lvtError rfl, hread .timerInitial rfl, hread .timerCurrent rfl,
      hread .timerDivide rfl, exec_r32Ioregsel (resetState_faulted now s)⟩
  · obtain ⟨hu, hparams, hio⟩ := exec_w32Ioregsel_resetState hselect
    obtain ⟨hid, hversion, harbitration⟩ := exec_r32Iowin_resetIdentity hu hio
    rw [hparams] at hversion
    exact ⟨hid, hversion, harbitration, fun k => (exec_r32Iowin_resetRedirection hu hio k).1,
      fun k => (exec_r32Iowin_resetRedirection hu hio k).2⟩

end Sys2Proof.Machine
